-- ==== Sys2Proof/Word.lean ====
section
/-! DEFINITION. The fixed-width values of CM7 (spec/30_encoding.md R46, spec/00_scope.md R9), the formats a word
comes in, and the five-valued range type that R51 asks for. Bit 0 is the least significant bit (R11). -/

namespace Sys2Proof

/-- A symbol code, `SYM_W` = 5 bits (R47). -/
abbrev Sym := BitVec 5

/-- A segment mask, `MASK_W` = 8 bits: bits 0 to 6 are segments a to g, bit 7 is DP (R48). -/
abbrev Mask := BitVec 8

/-- A decimal-point index, `DP_W` = 3 bits (R49). -/
abbrev DpIndex := BitVec 3

/-- A digit index 0..3 (R21). -/
abbrev Digit := BitVec 2

/-- A buffer word, 23 bits (R50). -/
abbrev BufWord := BitVec 23

/-- A capture tick count, `CAP_W` = 16 bits (R26, R53). -/
abbrev Count := BitVec 16

/-- An event word, 32 bits: tag in bits 31..28, operand in bits 27..0 (R52). -/
abbrev EventWord := BitVec 32

/-- A range setting: exactly the five legal values (R23, R51). -/
inductive RangeSetting where
  | r1 | r2 | r3 | r4 | r5
deriving DecidableEq, Repr, Inhabited

/-- A word together with the format it is read in (R46). MASK and BUFW name no operation and have no row in the
opcode table, so they are not formats of a word to be performed. -/
inductive FormatWord where
  /-- An event word (R52). -/
  | ev (w : EventWord)
  /-- A symbol code (R47). -/
  | sym (w : Sym)
  /-- A decimal-point index (R49). -/
  | dp (w : DpIndex)
  /-- A range code (R51). -/
  | rng (w : BitVec 3)
deriving DecidableEq, Repr

end Sys2Proof
end

