-- ==== Sys2Proof/Config.lean ====
section
/-! DEFINITION. The implementation parameters of CM7 (spec/00_scope.md R9) and the order of the agents' steps
(spec/20_memory.md R40). Everything the spec leaves OPEN is an opaque constant with no body, so that no proof can
see its value: log entries 1, 2, 4 and 12. -/

namespace Sys2Proof

/-- What RERANGE does when no sample arrived (`NO_SAMPLE_POLICY`, R9). -/
inductive NoSamplePolicy where
  | hold | stepUp
deriving DecidableEq, Repr, Inhabited

/-- The OPEN parameters of R9. No operation reads or writes them (R18). `tRefresh`, `tCharge` and `tDischarge` are
named by R9 and "no rule depends on" them (R117), so nothing in the model reads them. -/
structure Params where
  sampleMin : Nat
  sampleMax : Nat
  threshLow : Nat
  threshHigh : Nat
  noSamplePolicy : NoSamplePolicy
  nRes : Nat
  resOfRange : RangeSetting → Nat
  segActiveLow : Bool
  selActiveLow : Bool
  tRefresh : Nat
  tCharge : Nat
  tDischarge : Nat
deriving Inhabited

/-- The constraint column of R9, repeated in R109. -/
structure Params.Legal (p : Params) : Prop where
  one_le_sampleMin : 1 ≤ p.sampleMin
  sampleMin_le_sampleMax : p.sampleMin ≤ p.sampleMax
  sampleMax_le : p.sampleMax ≤ 59999
  threshLow_le_threshHigh : p.threshLow ≤ p.threshHigh
  one_le_nRes : 1 ≤ p.nRes
  resOfRange_lt : ∀ r, p.resOfRange r < p.nRes

/-- Brings any record inside the constraints of R9 and leaves a legal one as it is
(`Params.clamp_legal`, `Params.clamp_eq_self` in Laws/Config.lean): so the legal records are exactly what it gives.
Log entry 1. -/
def Params.clamp (p : Params) : Params :=
  let hi := max 1 (min p.sampleMax 59999)
  { p with
    sampleMax := hi
    sampleMin := max 1 (min p.sampleMin hi)
    threshHigh := max p.threshLow p.threshHigh
    nRes := max 1 p.nRes
    resOfRange := fun r => min (p.resOfRange r) (max 1 p.nRes - 1) }

/-- The deployment's choice of the parameters, before the constraints: open (R9). -/
opaque Config.choice : Params

/-- The parameters of the machine: any legal values, and nothing more is known of them (R9, R109). -/
def Config.params : Params := Config.choice.clamp

/-- Who takes a step: the agents of R8, with RESET from outside. CAPTURE carries a count "under no law" (R78). -/
inductive Turn where
  /-- The measurement sequencer performs the operation its phase enables (R75). -/
  | sequencer
  /-- The refresh tick source fires TICK (R67). -/
  | tick
  /-- The comparator trips with count `t` (R78). -/
  | trip (t : Count)
  /-- RESET is applied from outside (R107). -/
  | reset
deriving DecidableEq, Repr, Inhabited

/-- The order of the agents' steps: "which enabled agent takes the next step is left open: a model admits every
order" (R40). Turn n of a free run is `Config.schedule n`. Log entry 4. -/
opaque Config.schedule : Nat → Turn

/-- The 20 value bits that the n-th CONVERT without a reading leaves in `CONV` beside `Rejected` or `NoSample`: R84 names
the outcome only and gives them no value, and no rule reads them. Open: log entry 12. -/
opaque Config.convRest : Nat → BitVec 20

end Sys2Proof
end

