-- ==== Sys2Proof/Syntax.lean ====
section
/-! DEFINITION. The instructions of CM7: one constructor for each row of spec/opcode_table.json. The first ten are
the operations of spec/30_encoding.md R52, the next four its reserved tags (R55), the others the symbol codes (R47),
the decimal-point indices (R49) and the range settings (R51, R82), which the table lists as rows (log entry 6). -/

namespace Sys2Proof

inductive Instr where
  /-- ENC: query the glyph encoder with a symbol code (R61). -/
  | enc (s : Sym)
  /-- TICK: one refresh tick (R67). -/
  | tick
  /-- WRBUF: write the whole display buffer (R68). -/
  | wrbuf (b : BufWord)
  /-- DISCHARGE: force the capacitor low (R76). -/
  | discharge
  /-- CHARGE: select the resistor, arm capture, begin charging (R77). -/
  | charge
  /-- CAPTURE: the comparator trips with tick count `t` (R78). -/
  | capture (t : Count)
  /-- DISARM: close the charge window (R79). -/
  | disarm
  /-- CONVERT: turn the sample into a display (R84). -/
  | convert
  /-- RERANGE: adjust the range for the next cycle (R85). -/
  | rerange
  /-- RESET: power-on or reset (R107). -/
  | reset
  /-- Reserved tag 0x9, any operand (R55). -/
  | reserved9 (operand : BitVec 28)
  /-- Reserved tags 0xA and 0xB, any operand (R55). -/
  | reservedAB (tag : BitVec 4) (operand : BitVec 28)
  /-- Reserved tags 0xC and 0xD, any operand (R55). -/
  | reservedCD (tag : BitVec 4) (operand : BitVec 28)
  /-- Reserved tag 0xE, any operand (R55). -/
  | reservedE (operand : BitVec 28)
  /-- Symbol code 0x00 (R47). -/
  | sym0
  /-- Symbol code 0x01 (R47). -/
  | sym1
  /-- Symbol code 0x02 (R47). -/
  | sym2
  /-- Symbol code 0x03 (R47). -/
  | sym3
  /-- Symbol code 0x04 (R47). -/
  | sym4
  /-- Symbol code 0x05 (R47). -/
  | sym5
  /-- Symbol code 0x06 (R47). -/
  | sym6
  /-- Symbol code 0x07 (R47). -/
  | sym7
  /-- Symbol code 0x08 (R47). -/
  | sym8
  /-- Symbol code 0x09 (R47). -/
  | sym9
  /-- Symbol code 0x0A (R47). -/
  | symA
  /-- Symbol code 0x0B (R47). -/
  | symB
  /-- Symbol code 0x0C (R47). -/
  | symC
  /-- Symbol code 0x0D (R47). -/
  | symD
  /-- Symbol code 0x0E (R47). -/
  | symE
  /-- Symbol code 0x0F (R47). -/
  | symF
  /-- Symbol code 0x10 (R47). -/
  | symP
  /-- Symbol code 0x11 (R47). -/
  | symN
  /-- Symbol code 0x12 (R47). -/
  | symU
  /-- Symbol code 0x13 (R47). -/
  | symDash
  /-- Unmapped symbol codes 0x14 to 0x17 (R47). -/
  | symUnmapped14 (code : Sym)
  /-- Unmapped symbol codes 0x18 to 0x1F (R47). -/
  | symUnmapped18 (code : Sym)
  /-- Decimal-point index 0: the point of digit 0 (R49). -/
  | dp0
  /-- Decimal-point index 1: the point of digit 1 (R49). -/
  | dp1
  /-- Decimal-point index 2: the point of digit 2 (R49). -/
  | dp2
  /-- Decimal-point index 3: the point of digit 3 (R49). -/
  | dp3
  /-- Decimal-point index 0b111, NONE (R49). -/
  | dpNone
  /-- Decimal-point indices 4 and 5, which light no point (R49). -/
  | dp45 (index : DpIndex)
  /-- Decimal-point index 6, which lights no point (R49). -/
  | dp6
  /-- Range setting 1 (R51, R81, R82). -/
  | range1
  /-- Range setting 2 (R51, R81, R82). -/
  | range2
  /-- Range setting 3 (R51, R81, R82). -/
  | range3
  /-- Range setting 4 (R51, R81, R82). -/
  | range4
  /-- Range setting 5 (R51, R81, R82). -/
  | range5
deriving DecidableEq, Repr

end Sys2Proof
end

