-- ==== Sys2Proof/WellFormed.lean ====
section
/-! DEFINITION. Which terms of `Instr` stand for a word: the operand widths are the types' (spec/30_encoding.md R53,
every value of a field is legal: R20, R49, R50), so what is left to check is that a row covering several codes names
one of its own. -/

namespace Sys2Proof

/-- Does the term stand for a word of its opcode-table row? -/
def Instr.wellFormed : Instr → Bool
  | .reservedAB tag _ => tag == 0xA#4 || tag == 0xB#4
  | .reservedCD tag _ => tag == 0xC#4 || tag == 0xD#4
  | .symUnmapped14 code => decide (0x14 ≤ code.toNat ∧ code.toNat ≤ 0x17)
  | .symUnmapped18 code => decide (0x18 ≤ code.toNat)
  | .dp45 index => index == 4#3 || index == 5#3
  | .enc _ | .tick | .wrbuf _ | .discharge | .charge | .capture _
  | .disarm | .convert | .rerange | .reset | .reserved9 _ | .reservedE _
  | .sym0 | .sym1 | .sym2 | .sym3 | .sym4 | .sym5
  | .sym6 | .sym7 | .sym8 | .sym9 | .symA | .symB
  | .symC | .symD | .symE | .symF | .symP | .symN
  | .symU | .symDash | .dp0 | .dp1 | .dp2 | .dp3
  | .dpNone | .dp6 | .range1 | .range2 | .range3 | .range4
  | .range5 => true

end Sys2Proof
end

