-- ==== Sys2Proof/Decode.lean ====
section
/-! DEFINITION. The decoder of spec/30_encoding.md R54, total on every word of every format, and the encoder of the
same tables (R47, R49, R51, R52). -/

namespace Sys2Proof

/-- Why a word decodes to no instruction. -/
inductive DecodeRefusal where
  /-- A defined tag with a nonzero operand bit outside its operand field (R54). -/
  | reservedBits
  /-- A range code 0, 6 or 7, which is not legal (R51). -/
  | illegalRangeCode
deriving DecidableEq, Repr

/-- The tag of an event word, bits 31..28 (R52). -/
def eventTag (w : EventWord) : BitVec 4 := w.extractLsb' 28 4

/-- The operand field of an event word, bits 27..0 (R52). -/
def eventOperand (w : EventWord) : BitVec 28 := w.extractLsb' 0 28

/-- An event word of a tag and an operand field (R52). -/
def eventWord (tag : BitVec 4) (operand : BitVec 28) : EventWord := tag ++ operand

/-- The operation if the bits that must be zero are, else `refuse(ReservedBits)` (R54). -/
def ifReservedZero {n : Nat} (reserved : BitVec n) (i : Instr) : Except DecodeRefusal Instr :=
  if reserved = 0 then .ok i else .error .reservedBits

/-- The operation of a tag and an operand field (R52, R53, R54). The reserved tags decode to their rows, which no
state performs (R56, log entry 8). -/
def decodeTagged (tag : BitVec 4) (operand : BitVec 28) : Except DecodeRefusal Instr :=
  match tag.toNat with
  | 0x0 => ifReservedZero (operand.extractLsb' 5 23) (.enc (operand.extractLsb' 0 5))
  | 0x1 => ifReservedZero operand .tick
  | 0x2 => ifReservedZero (operand.extractLsb' 23 5) (.wrbuf (operand.extractLsb' 0 23))
  | 0x3 => ifReservedZero operand .discharge
  | 0x4 => ifReservedZero operand .charge
  | 0x5 => ifReservedZero (operand.extractLsb' 16 12) (.capture (operand.extractLsb' 0 16))
  | 0x6 => ifReservedZero operand .disarm
  | 0x7 => ifReservedZero operand .convert
  | 0x8 => ifReservedZero operand .rerange
  | 0x9 => .ok (.reserved9 operand)
  | 0xA => .ok (.reservedAB tag operand)
  | 0xB => .ok (.reservedAB tag operand)
  | 0xC => .ok (.reservedCD tag operand)
  | 0xD => .ok (.reservedCD tag operand)
  | 0xE => .ok (.reservedE operand)
  -- a tag has 4 bits: the one left is 0xF
  | _ => ifReservedZero operand .reset

/-- An event word's operation (R54). -/
def decodeEvent (w : EventWord) : Except DecodeRefusal Instr := decodeTagged (eventTag w) (eventOperand w)

/-- The row of a symbol code (R47). -/
def decodeSym (w : Sym) : Instr :=
  match w.toNat with
  | 0x00 => .sym0
  | 0x01 => .sym1
  | 0x02 => .sym2
  | 0x03 => .sym3
  | 0x04 => .sym4
  | 0x05 => .sym5
  | 0x06 => .sym6
  | 0x07 => .sym7
  | 0x08 => .sym8
  | 0x09 => .sym9
  | 0x0A => .symA
  | 0x0B => .symB
  | 0x0C => .symC
  | 0x0D => .symD
  | 0x0E => .symE
  | 0x0F => .symF
  | 0x10 => .symP
  | 0x11 => .symN
  | 0x12 => .symU
  | 0x13 => .symDash
  | n => if n < 0x18 then .symUnmapped14 w else .symUnmapped18 w

/-- The row of a decimal-point index (R49). -/
def decodeDp (w : DpIndex) : Instr :=
  match w.toNat with
  | 0 => .dp0
  | 1 => .dp1
  | 2 => .dp2
  | 3 => .dp3
  | 6 => .dp6
  | 7 => .dpNone
  | _ => .dp45 w

/-- The row of a range code; 0, 6 and 7 are not legal (R51). -/
def decodeRng (w : BitVec 3) : Except DecodeRefusal Instr :=
  match w.toNat with
  | 1 => .ok .range1
  | 2 => .ok .range2
  | 3 => .ok .range3
  | 4 => .ok .range4
  | 5 => .ok .range5
  | _ => .error .illegalRangeCode

/-- The decoder: total on every word (R54). -/
def decode : FormatWord → Except DecodeRefusal Instr
  | .ev w => decodeEvent w
  | .sym w => .ok (decodeSym w)
  | .dp w => .ok (decodeDp w)
  | .rng w => decodeRng w

/-- The encoder: the word of an instruction (R47, R49, R51, R52). -/
def encode : Instr → FormatWord
  | .enc s => .ev (eventWord 0x0 (0#23 ++ s))
  | .tick => .ev (eventWord 0x1 0)
  | .wrbuf b => .ev (eventWord 0x2 (0#5 ++ b))
  | .discharge => .ev (eventWord 0x3 0)
  | .charge => .ev (eventWord 0x4 0)
  | .capture t => .ev (eventWord 0x5 (0#12 ++ t))
  | .disarm => .ev (eventWord 0x6 0)
  | .convert => .ev (eventWord 0x7 0)
  | .rerange => .ev (eventWord 0x8 0)
  | .reset => .ev (eventWord 0xF 0)
  | .reserved9 operand => .ev (eventWord 0x9 operand)
  | .reservedAB tag operand => .ev (eventWord tag operand)
  | .reservedCD tag operand => .ev (eventWord tag operand)
  | .reservedE operand => .ev (eventWord 0xE operand)
  | .sym0 => .sym 0x00
  | .sym1 => .sym 0x01
  | .sym2 => .sym 0x02
  | .sym3 => .sym 0x03
  | .sym4 => .sym 0x04
  | .sym5 => .sym 0x05
  | .sym6 => .sym 0x06
  | .sym7 => .sym 0x07
  | .sym8 => .sym 0x08
  | .sym9 => .sym 0x09
  | .symA => .sym 0x0A
  | .symB => .sym 0x0B
  | .symC => .sym 0x0C
  | .symD => .sym 0x0D
  | .symE => .sym 0x0E
  | .symF => .sym 0x0F
  | .symP => .sym 0x10
  | .symN => .sym 0x11
  | .symU => .sym 0x12
  | .symDash => .sym 0x13
  | .symUnmapped14 code => .sym code
  | .symUnmapped18 code => .sym code
  | .dp0 => .dp 0
  | .dp1 => .dp 1
  | .dp2 => .dp 2
  | .dp3 => .dp 3
  | .dpNone => .dp 7
  | .dp45 index => .dp index
  | .dp6 => .dp 6
  | .range1 => .rng 1
  | .range2 => .rng 2
  | .range3 => .rng 3
  | .range4 => .rng 4
  | .range5 => .rng 5

/-- The word of an opcode-table row of `nbits` bits. An 8-bit row is a code of 3 or 5 bits in a whole byte; as the
byte does not say which format it is, it is read as a symbol code, the first format of R46 (log entry 7). -/
def tableWord (nbits w : Nat) : FormatWord :=
  if nbits = 8 ∧ w < 32 then .sym (BitVec.ofNat 5 w) else .ev (BitVec.ofNat 32 w)

/-- What the decoder reads from a word of the opcode table. -/
def decodeTableWord (nbits w : Nat) : Option Instr :=
  match decode (tableWord nbits w) with
  | .ok i => some i
  | .error _ => none

end Sys2Proof
end

