-- ==== Sys2Proof/Machine/State.lean ====
section
/-! DEFINITION. The state of CM7 (spec/10_state.md R16 to R31), the reasons a step can stop, and the machine right
after reset (R31, R107). -/

namespace Sys2Proof.Machine

/-- `BUF`, the display buffer: four symbol codes, index 0 the most significant digit, and the decimal-point index
(R20). -/
structure Buffer where
  g0 : Sym
  g1 : Sym
  g2 : Sym
  g3 : Sym
  dp : DpIndex
deriving DecidableEq, Repr

/-- `PH`, the sequencer phase: which sequencer operation is next (R24). -/
inductive Phase where
  /-- `P_DIS`: next is DISCHARGE. -/
  | dis
  /-- `P_CHG`: next is CHARGE. -/
  | chg
  /-- `P_WAIT`: the charge window is open and capture is armed; next is DISARM. -/
  | wait
  /-- `P_CNV`: next is CONVERT. -/
  | cnv
  /-- `P_RNG`: next is RERANGE. -/
  | rng
deriving DecidableEq, Repr

/-- `CONV`, the outcome of the most recent CONVERT: a tag and a 20-bit value (R27). The scaled value is held as a natural
number (R10); beside the other two tags the value bits stand as they are (R31, log entry 12). -/
inductive Conv where
  | scaled (v : Nat)
  | rejected (rest : BitVec 20)
  | noSample (rest : BitVec 20)
deriving DecidableEq, Repr

/-- The state of one charge-control line (R28). -/
inductive ChargeLine where
  /-- Released as input, high impedance. -/
  | rel
  /-- Driven as output at logic low. -/
  | low
  /-- Driven as output at logic high, charging. -/
  | high
deriving DecidableEq, Repr

/-- One row of the range table: the scaled value is `t * factor / divisor` (R81), with the unit glyph and the
decimal-point index (R82). -/
structure RangeRow where
  factor : Nat
  divisor : Nat
  unit : Sym
  dp : DpIndex
deriving DecidableEq, Repr

/-- What a combinational query returned: the value of the MODEL's own field `State.answer` (log entry 5). -/
inductive Answer where
  /-- No query has been made. -/
  | idle
  /-- The encoder's output for a symbol code (R61). -/
  | mask (m : Mask)
  /-- Which digit a decimal-point index names, if any (R49). -/
  | digit (d : Option Digit)
  /-- The range table's row of a range setting (R81, R82). -/
  | rangeRow (row : RangeRow)
deriving DecidableEq, Repr

/-- The whole state: the elements of R20 to R28, and four fields of the model's own. -/
structure State where
  /-- `BUF` (R20). -/
  buf : Buffer
  /-- `DIG`: the digit the most recent TICK selected (R21). -/
  dig : Digit
  /-- `SEG[6:0]`: segments a to g, bit = 1 lit (R22, R48). -/
  seg : BitVec 7
  /-- `DPL`: the decimal point is lit (R22). -/
  dpl : Bool
  /-- `SEL[3:0]`: bit i = 1, digit i is selected (R22). -/
  sel : BitVec 4
  /-- `RANGE` (R23). -/
  range : RangeSetting
  /-- `PH` (R24). -/
  ph : Phase
  /-- `ARMED`: the capture interrupt is enabled (R25). -/
  armed : Bool
  /-- `SAMPLE` (R26). -/
  sample : Option Count
  /-- `CONV` (R27). -/
  conv : Conv
  /-- `CHG[k]` for k in 0..N_RES-1, line 0 first (R28). -/
  chg : List ChargeLine
  /-- MODEL's own: what the last query returned, the output lines of the encoder port (R102, log entry 5). -/
  answer : Answer
  /-- MODEL's own: the words waiting to be performed, the next one first (R52, log entry 3). -/
  inputs : List FormatWord
  /-- MODEL's own: how many turns have been drawn from `Config.schedule` (R40, log entry 4). -/
  turns : Nat
  /-- MODEL's own: how many free values have been drawn from `Config.convRest` (log entry 12). -/
  draws : Nat
deriving DecidableEq, Repr

/-- CM7 "raises no exception, has no trap, records no cause code" (R89), and no behaviour of it is treated as a fault
(spec/93_implementation_defined.md): there is no reason for one (log entry 9). -/
inductive Fault where
deriving DecidableEq, Repr

/-- Why an event is not a step of CM7 (R56). A refusal ends the run, so it is kept for the whole run. -/
inductive Refusal where
  /-- `exec`, for an instruction that has no meaning yet; no arm of this model does. Safe: nothing is proved of it. -/
  | notModelled (mnemonic : String)
  /-- The rows of the reserved tags 0x9 to 0xE: `refuse(ReservedTag)` (R54, R56). Safe: the spec refuses it too. -/
  | reservedTag
  /-- `step`, for an event word with a nonzero reserved bit: `refuse(ReservedBits)` (R54, R56). Safe: as above. -/
  | reservedBits
  /-- A sequencer operation in a phase that does not enable it: `refuse(OutOfPhase)` (R75). Safe: as above. -/
  | outOfPhase
  /-- `step`, for an RNG word 0, 6 or 7, which is not legal and "cannot occur" (R51, R55). Safe: it only stops. -/
  | illegalRangeCode
deriving DecidableEq, Repr

/-- The outcome of a step of this machine. -/
abbrev Result := Host.Outcome State Fault Refusal

/-- The machine after RESET under given parameters: the table of R31. N_RES fixes how many lines there are. -/
def State.resetWith (p : Params) : State where
  buf := ⟨0x13, 0x13, 0x13, 0x13, 0b111⟩
  dig := 3
  seg := 0
  dpl := false
  sel := 0
  range := .r3
  ph := .dis
  armed := false
  sample := none
  conv := .rejected 0
  chg := List.replicate p.nRes .rel
  answer := .idle
  inputs := []
  turns := 0
  draws := 0

/-- The machine right after reset (R31, R107); power-on is a RESET (R106). -/
def State.reset : State := State.resetWith Config.params

end Sys2Proof.Machine
end

