-- ==== Sys2Proof/Machine/Ops.lean ====
section
/-! DEFINITION. The named operations over the state: one update per state element, the buffer primitives of
spec/20_memory.md, the phase check of spec/42_measurement.md R75, the hardware codes of the state elements
(spec/10_state.md), and the input list. CM7 takes no exception (R89): taking an interrupt is performing its step and
saves nothing (R93), so there is no entry and no return to model. -/

namespace Sys2Proof.Machine

/-! ### One update per element -/

/-- Writes `BUF` (R20). -/
def State.setBuf (s : State) (b : Buffer) : State := { s with buf := b }

/-- Writes `DIG` and the display output register together, as TICK does (R21, R22). -/
def State.setDisplay (s : State) (dig : Digit) (seg : BitVec 7) (dpl : Bool) (sel : BitVec 4) : State :=
  { s with dig := dig, seg := seg, dpl := dpl, sel := sel }

/-- Writes `RANGE` (R23). -/
def State.setRange (s : State) (r : RangeSetting) : State := { s with range := r }

/-- Writes `PH` (R24). -/
def State.setPh (s : State) (ph : Phase) : State := { s with ph := ph }

/-- Writes `ARMED` (R25). -/
def State.setArmed (s : State) (a : Bool) : State := { s with armed := a }

/-- Writes `SAMPLE` (R26). -/
def State.setSample (s : State) (t : Option Count) : State := { s with sample := t }

/-- Writes `CONV` (R27). -/
def State.setConv (s : State) (c : Conv) : State := { s with conv := c }

/-- Writes every `CHG[k]` (R28). -/
def State.setChg (s : State) (lines : List ChargeLine) : State := { s with chg := lines }

/-- Puts a query's result on the encoder port's lines: the model's own field (log entry 5). -/
def State.setAnswer (s : State) (a : Answer) : State := { s with answer := a }

/-- Sets the words waiting to be performed: the model's own field (log entry 3). -/
def State.setInputs (s : State) (ws : List FormatWord) : State := { s with inputs := ws }

/-- Sets how many turns have been drawn: the model's own field (log entry 4). -/
def State.setTurns (s : State) (n : Nat) : State := { s with turns := n }

/-- Sets how many free values have been drawn: the model's own field (log entry 12). -/
def State.setDraws (s : State) (n : Nat) : State := { s with draws := n }

/-- Writes `CONV` with a tag whose value bits no rule gives: they are the next free value (R27, R84, log entry 12). -/
def State.setConvOpen (s : State) (outcome : BitVec 20 → Conv) : State :=
  (s.setConv (outcome (Config.convRest s.draws))).setDraws (s.draws + 1)

/-! ### The display buffer (spec/20_memory.md) -/

/-- The 23-bit word of a buffer: `dp ++ g[3] ++ g[2] ++ g[1] ++ g[0]` (R50). -/
def Buffer.pack (b : Buffer) : BufWord := b.dp ++ b.g3 ++ b.g2 ++ b.g1 ++ b.g0

/-- The fields of a 23-bit buffer word (R34, R50). -/
def Buffer.unpack (w : BufWord) : Buffer where
  g0 := w.extractLsb' 0 5
  g1 := w.extractLsb' 5 5
  g2 := w.extractLsb' 10 5
  g3 := w.extractLsb' 15 5
  dp := w.extractLsb' 20 3

/-- The glyph entry a digit index selects (R19, R67). -/
def Buffer.glyph (b : Buffer) (d : Digit) : Sym :=
  match d.toNat with
  | 0 => b.g0
  | 1 => b.g1
  | 2 => b.g2
  | _ => b.g3

/-- `BufRead()`: all five fields, as one value, with no side effect (R33). -/
def bufRead (s : State) : Buffer := s.buf

/-- `BufWrite(w)`: all five fields at once (R34). -/
def bufWrite (w : BufWord) (s : State) : State := s.setBuf (Buffer.unpack w)

/-! ### Arithmetic and bit selection (spec/00_scope.md R12) -/

/-- `onehot4(i)`: the 4-bit value with only bit i set (R12). -/
def onehot4 (d : Digit) : BitVec 4 := 1#4 <<< d.toNat

/-! ### The sequencer's cycle (spec/42_measurement.md R75) -/

/-- The phase a sequencer operation sets, from the phase that enables it: the table of R75. -/
def Phase.succ : Phase → Phase
  | .dis => .chg
  | .chg => .wait
  | .wait => .cnv
  | .cnv => .rng
  | .rng => .dis

/-- A sequencer operation: in the phase that enables it, its effect and then the next phase; in any other phase
`refuse(OutOfPhase)` (R75). -/
def sequencerStep (enabled : Phase) (effect : State → State) (s : State) : Result :=
  if s.ph = enabled then .next ((effect s).setPh enabled.succ) else .refused .outOfPhase

/-- The row of a refused word: never a state change, never a no-op (R56). -/
def refuseReservedTag : Result := .refused .reservedTag

/-! ### The state elements as the hardware codes them (spec/10_state.md) -/

/-- The 3-bit code of a phase; 5, 6 and 7 are never written (R24). -/
def Phase.code : Phase → BitVec 3
  | .dis => 0
  | .chg => 1
  | .wait => 2
  | .cnv => 3
  | .rng => 4

/-- The 2-bit code of a charge-control line; 3 is never written (R28). -/
def ChargeLine.code : ChargeLine → BitVec 2
  | .rel => 0
  | .low => 1
  | .high => 2

/-- The 2-bit tag of `CONV`; 3 is never written (R27). -/
def Conv.tag : Conv → BitVec 2
  | .scaled _ => 0
  | .rejected _ => 1
  | .noSample _ => 2

/-- The 20-bit value of `CONV` (R10, R27): 0 after reset (R31). Beside `Rejected` and `NoSample` no rule reads it. -/
def Conv.value : Conv → BitVec 20
  | .scaled v => BitVec.ofNat 20 v
  | .rejected rest => rest
  | .noSample rest => rest

/-- The code of a range setting, the integer 1 to 5 (R51). -/
def rangeCode : RangeSetting → Nat
  | .r1 => 1
  | .r2 => 2
  | .r3 => 3
  | .r4 => 4
  | .r5 => 5

/-! ### Words that wait to be performed (log entry 3) -/

/-- The next word and the state without it, if one waits. -/
def fetch (s : State) : Option (FormatWord × State) :=
  match s.inputs with
  | [] => none
  | w :: rest => some (w, s.setInputs rest)

/-- The machine's refusal for a word the decoder refuses (R54, R56). -/
def Refusal.ofDecode : DecodeRefusal → Refusal
  | .reservedBits => .reservedBits
  | .illegalRangeCode => .illegalRangeCode

end Sys2Proof.Machine
end

