-- ==== Sys2Proof/Machine/Operands.lean ====
section
/-! DEFINITION. The tables and fields the operations read their operands through: the glyph table
(spec/40_glyph_encoder.md R61), the decimal-point index (spec/30_encoding.md R49), the range table and the digits of a
value (spec/42_measurement.md R80 to R83), and the output pins (spec/41_refresh.md R74). -/

namespace Sys2Proof.Machine

/-- `ENC`: the glyph table, with every unmapped code falling back to the mask of `'-'` (R61, R62). A pure function of
the code alone (R60); bit 7 is 0 in every row (R64). -/
def glyphMask (c : Sym) : Mask :=
  match c.toNat with
  | 0x00 => 0x3F
  | 0x01 => 0x06
  | 0x02 => 0x5B
  | 0x03 => 0x4F
  | 0x04 => 0x66
  | 0x05 => 0x6D
  | 0x06 => 0x7D
  | 0x07 => 0x07
  | 0x08 => 0x7F
  | 0x09 => 0x6F
  | 0x0A => 0x77
  | 0x0B => 0x7C
  | 0x0C => 0x39
  | 0x0D => 0x5E
  | 0x0E => 0x79
  | 0x0F => 0x71
  | 0x10 => 0x73
  | 0x11 => 0x54
  | 0x12 => 0x1C
  | _ => 0x40

/-- A query of the encoder port: the mask of the code appears on its output lines and no state element changes
(R60, R61, R102; log entry 5). -/
def queryEncoder (c : Sym) (s : State) : Result := .next (s.setAnswer (.mask (glyphMask c)))

/-- The digit whose decimal point an index names: 0 to 3 name a digit, 4 to 6 and NONE name none (R49). -/
def dpDigit (dp : DpIndex) : Option Digit :=
  match dp.toNat with
  | 0 => some 0
  | 1 => some 1
  | 2 => some 2
  | 3 => some 3
  | _ => none

/-- A lookup of a decimal-point index: what it names, and no state element changes (R49, log entry 6). -/
def queryDp (dp : DpIndex) (s : State) : Result := .next (s.setAnswer (.digit (dpDigit dp)))

/-- The range table: the multiplier or divisor of R81, and the unit and decimal-point index of R82. "This is a direct
lookup, not a computed formula." -/
def rangeRow : RangeSetting → RangeRow
  | .r1 => ⟨10, 1, 0x10, 1⟩
  | .r2 => ⟨1, 1, 0x11, 1⟩
  | .r3 => ⟨1, 10, 0x11, 0b111⟩
  | .r4 => ⟨1, 100, 0x12, 1⟩
  | .r5 => ⟨1, 10000, 0x12, 0b111⟩

/-- A lookup of a range setting: its row, and no state element changes (R81, R82, log entry 6). -/
def queryRange (r : RangeSetting) (s : State) : Result := .next (s.setAnswer (.rangeRow (rangeRow r)))

/-- `scale(r, t)`: exact, the division truncated toward zero (R81, R12). -/
def scale (r : RangeSetting) (t : Count) : Nat := t.toNat * (rangeRow r).factor / (rangeRow r).divisor

/-- Is a tick count valid: `SAMPLE_MIN <= t <= SAMPLE_MAX` (R80). -/
def validCount (p : Params) (t : Count) : Bool := decide (p.sampleMin ≤ t.toNat ∧ t.toNat ≤ p.sampleMax)

/-- A decimal digit as a symbol code: `zext_5(d)` (R47). -/
def digitSym (d : Nat) : Sym := BitVec.ofNat 5 d

/-- The buffer word of a scaled value at a range: hundreds, tens and ones at positions 0, 1, 2, the unit at
position 3 (R83, R84). -/
def readingWord (r : RangeSetting) (v : Nat) : BufWord :=
  (rangeRow r).dp ++ (rangeRow r).unit ++ digitSym (v % 10) ++ digitSym (v / 10 % 10) ++ digitSym (v / 100 % 10)

/-- One step toward the more sensitive ranges: `max(1, RANGE - 1)` (R85). -/
def rangeDown : RangeSetting → RangeSetting
  | .r1 => .r1
  | .r2 => .r1
  | .r3 => .r2
  | .r4 => .r3
  | .r5 => .r4

/-- One step toward the less sensitive ranges: `min(5, RANGE + 1)` (R85). -/
def rangeUp : RangeSetting → RangeSetting
  | .r1 => .r2
  | .r2 => .r3
  | .r3 => .r4
  | .r4 => .r5
  | .r5 => .r5

/-- The range RERANGE chooses from the outcome of CONVERT (R85). -/
def nextRange (p : Params) (c : Conv) (r : RangeSetting) : RangeSetting :=
  match c with
  | .scaled v => if v < p.threshLow then rangeDown r else if p.threshHigh < v then rangeUp r else r
  | .rejected _ => r
  | .noSample _ =>
    match p.noSamplePolicy with
    | .stepUp => rangeUp r
    | .hold => r

/-- Every charge-control line LOW, as DISCHARGE drives them (R76). -/
def allLow (p : Params) : List ChargeLine := List.replicate p.nRes .low

/-- The line of the range HIGH, the others released, as CHARGE drives them (R77). -/
def driveLine (p : Params) (r : RangeSetting) : List ChargeLine :=
  (List.range p.nRes).map fun k => if k = p.resOfRange r then .high else .rel

/-! ### The physical level of the output pins (R74): no rule reads one -/

/-- Segment pin i, i in 0..6: `SEG[i] xor SEG_ACTIVE_LOW`. -/
def segPin (p : Params) (s : State) (i : Fin 7) : Bool := s.seg[i] ^^ p.segActiveLow

/-- The DP pin: `DPL xor SEG_ACTIVE_LOW`. -/
def dpPin (p : Params) (s : State) : Bool := s.dpl ^^ p.segActiveLow

/-- Digit-select pin i, i in 0..3: `SEL[i] xor SEL_ACTIVE_LOW`. -/
def selPin (p : Params) (s : State) (i : Fin 4) : Bool := s.sel[i] ^^ p.selActiveLow

end Sys2Proof.Machine
end

