-- ==== Sys2Proof/Machine/Codes.lean ====
section
/-! DEFINITION. The code rows that are no operation: decimal-point indices (spec/30_encoding.md R49) and range settings
(R51, spec/42_measurement.md R81, R82), each performed as a lookup of what the table gives it (log entry 6); and the
reserved tags, which no state performs (R55, R56, log entry 8). -/

namespace Sys2Proof.Machine

/-- Decimal-point index 0 (R49). -/
def execDp0 (s : State) : Result := queryDp 0 s

/-- Decimal-point index 1 (R49). -/
def execDp1 (s : State) : Result := queryDp 1 s

/-- Decimal-point index 2 (R49). -/
def execDp2 (s : State) : Result := queryDp 2 s

/-- Decimal-point index 3 (R49). -/
def execDp3 (s : State) : Result := queryDp 3 s

/-- Decimal-point index 0b111, NONE (R49). -/
def execDpNone (s : State) : Result := queryDp 0b111 s

/-- Decimal-point indices 4 and 5 (R49). -/
def execDp45 (index : DpIndex) (s : State) : Result := queryDp index s

/-- Decimal-point index 6 (R49). -/
def execDp6 (s : State) : Result := queryDp 6 s

/-- Range setting 1 (R81, R82). -/
def execRange1 (s : State) : Result := queryRange .r1 s

/-- Range setting 2 (R81, R82). -/
def execRange2 (s : State) : Result := queryRange .r2 s

/-- Range setting 3 (R81, R82). -/
def execRange3 (s : State) : Result := queryRange .r3 s

/-- Range setting 4 (R81, R82). -/
def execRange4 (s : State) : Result := queryRange .r4 s

/-- Range setting 5 (R81, R82). -/
def execRange5 (s : State) : Result := queryRange .r5 s

/-- Reserved tag 0x9: `refuse(ReservedTag)` (R54, R56). -/
def execReserved9 (_operand : BitVec 28) (_s : State) : Result := refuseReservedTag

/-- Reserved tags 0xA and 0xB: `refuse(ReservedTag)` (R54, R56). -/
def execReservedAB (_tag : BitVec 4) (_operand : BitVec 28) (_s : State) : Result := refuseReservedTag

/-- Reserved tags 0xC and 0xD: `refuse(ReservedTag)` (R54, R56). -/
def execReservedCD (_tag : BitVec 4) (_operand : BitVec 28) (_s : State) : Result := refuseReservedTag

/-- Reserved tag 0xE: `refuse(ReservedTag)` (R54, R56). -/
def execReservedE (_operand : BitVec 28) (_s : State) : Result := refuseReservedTag

end Sys2Proof.Machine
end

