-- ==== Sys2Proof/Machine/Encoder.lean ====
section
/-! DEFINITION. The glyph encoder: ENC and the symbol codes (spec/40_glyph_encoder.md R61). A symbol code alone is a
query of the encoder port (spec/60_exceptions.md R102, log entry 6). -/

namespace Sys2Proof.Machine

/-- `ENC`: the mask of a symbol code; no state element is read or written (R60, R61). -/
def execEnc (c : Sym) (s : State) : Result := queryEncoder c s

/-- Symbol code 0x00, `'0'` (R47, R61). -/
def execSym0 (s : State) : Result := queryEncoder 0x00 s

/-- Symbol code 0x01, `'1'` (R47, R61). -/
def execSym1 (s : State) : Result := queryEncoder 0x01 s

/-- Symbol code 0x02, `'2'` (R47, R61). -/
def execSym2 (s : State) : Result := queryEncoder 0x02 s

/-- Symbol code 0x03, `'3'` (R47, R61). -/
def execSym3 (s : State) : Result := queryEncoder 0x03 s

/-- Symbol code 0x04, `'4'` (R47, R61). -/
def execSym4 (s : State) : Result := queryEncoder 0x04 s

/-- Symbol code 0x05, `'5'` (R47, R61). -/
def execSym5 (s : State) : Result := queryEncoder 0x05 s

/-- Symbol code 0x06, `'6'` (R47, R61). -/
def execSym6 (s : State) : Result := queryEncoder 0x06 s

/-- Symbol code 0x07, `'7'` (R47, R61). -/
def execSym7 (s : State) : Result := queryEncoder 0x07 s

/-- Symbol code 0x08, `'8'` (R47, R61). -/
def execSym8 (s : State) : Result := queryEncoder 0x08 s

/-- Symbol code 0x09, `'9'` (R47, R61). -/
def execSym9 (s : State) : Result := queryEncoder 0x09 s

/-- Symbol code 0x0A, `'a'` (R47, R61). -/
def execSymA (s : State) : Result := queryEncoder 0x0A s

/-- Symbol code 0x0B, `'b'` (R47, R61). -/
def execSymB (s : State) : Result := queryEncoder 0x0B s

/-- Symbol code 0x0C, `'c'` (R47, R61). -/
def execSymC (s : State) : Result := queryEncoder 0x0C s

/-- Symbol code 0x0D, `'d'` (R47, R61). -/
def execSymD (s : State) : Result := queryEncoder 0x0D s

/-- Symbol code 0x0E, `'e'` (R47, R61). -/
def execSymE (s : State) : Result := queryEncoder 0x0E s

/-- Symbol code 0x0F, `'f'` (R47, R61). -/
def execSymF (s : State) : Result := queryEncoder 0x0F s

/-- Symbol code 0x10, `'p'` (R47, R61). -/
def execSymP (s : State) : Result := queryEncoder 0x10 s

/-- Symbol code 0x11, `'n'` (R47, R61). -/
def execSymN (s : State) : Result := queryEncoder 0x11 s

/-- Symbol code 0x12, `'u'` (R47, R61). -/
def execSymU (s : State) : Result := queryEncoder 0x12 s

/-- Symbol code 0x13, `'-'` (R47, R61). -/
def execSymDash (s : State) : Result := queryEncoder 0x13 s

/-- Symbol codes 0x14 to 0x17, unmapped: the mask of `'-'` (R47, R61). -/
def execSymUnmapped14 (code : Sym) (s : State) : Result := queryEncoder code s

/-- Symbol codes 0x18 to 0x1F, unmapped: the mask of `'-'` (R47, R61). -/
def execSymUnmapped18 (code : Sym) (s : State) : Result := queryEncoder code s

end Sys2Proof.Machine
end

