-- ==== Sys2Proof/Machine/Flags.lean ====
section
/-! DEFINITION. CM7 has no condition codes and no flag register; its only status bits are `ARMED` and the valid bit of
`SAMPLE` (spec/10_state.md R29). -/

namespace Sys2Proof.Machine

/-- The valid bit of `SAMPLE` (R26, R29). -/
def State.sampleValid (s : State) : Bool := s.sample.isSome

/-- Is a comparator trip recorded: only when armed and empty, so one sample an armed interval (R25, R78). -/
def State.acceptsTrip (s : State) : Bool := s.armed && !s.sampleValid

end Sys2Proof.Machine
end

