-- ==== Sys2Proof/Machine/Measurement.lean ====
section
/-! DEFINITION. The measurement sequencer and the capture interface (spec/42_measurement.md). Each operation that
reads a parameter is written for any parameters and performed at those of the machine, `Config.params`. -/

namespace Sys2Proof.Machine

/-- DISCHARGE under given parameters: every line LOW (R76). -/
def discharge (p : Params) (s : State) : Result := sequencerStep .dis (fun s => s.setChg (allLow p)) s

/-- `DISCHARGE` (R76). -/
def execDischarge (s : State) : Result := discharge Config.params s

/-- CHARGE under given parameters: drive the line of the range, forget any sample, enable capture (R77). -/
def charge (p : Params) (s : State) : Result :=
  sequencerStep .chg (fun s => ((s.setChg (driveLine p s.range)).setSample none).setArmed true) s

/-- `CHARGE` (R77). -/
def execCharge (s : State) : Result := charge Config.params s

/-- `CAPTURE`: the count is recorded when armed and empty; any other trip changes nothing (R78). -/
def execCapture (t : Count) (s : State) : Result :=
  .next (if s.acceptsTrip then s.setSample (some t) else s)

/-- `DISARM`: capture is disabled; the sample and the lines stay (R79). -/
def execDisarm (s : State) : Result := sequencerStep .wait (fun s => s.setArmed false) s

/-- What CONVERT does with the sample, before it is consumed (R84). -/
def convertSample (p : Params) (s : State) : State :=
  match s.sample with
  | none => s.setConvOpen .noSample
  | some t =>
    if validCount p t then
      (bufWrite (readingWord s.range (scale s.range t)) s).setConv (.scaled (scale s.range t))
    else s.setConvOpen .rejected

/-- CONVERT under given parameters: the sample is consumed in every case (R84). -/
def convert (p : Params) (s : State) : Result := sequencerStep .cnv (fun s => (convertSample p s).setSample none) s

/-- `CONVERT` (R84). -/
def execConvert (s : State) : Result := convert Config.params s

/-- RERANGE under given parameters (R85). -/
def rerange (p : Params) (s : State) : Result :=
  sequencerStep .rng (fun s => s.setRange (nextRange p s.conv s.range)) s

/-- `RERANGE` (R85). -/
def execRerange (s : State) : Result := rerange Config.params s

end Sys2Proof.Machine
end

