-- ==== Sys2Proof/Machine/Refresh.lean ====
section
/-! DEFINITION. The refresh multiplexer: TICK and WRBUF (spec/41_refresh.md). -/

namespace Sys2Proof.Machine

/-- `TICK`: select the next digit, drive its segments and its decimal point (R67). Always enabled (R67, R91). -/
def execTick (s : State) : Result :=
  let d := s.dig + 1
  let b := bufRead s
  .next (s.setDisplay d ((glyphMask (b.glyph d)).extractLsb' 0 7) (d.setWidth 3 == b.dp) (onehot4 d))

/-- `WRBUF`: one `BufWrite`; no output line changes (R68). Always enabled. -/
def execWrbuf (b : BufWord) (s : State) : Result := .next (bufWrite b s)

end Sys2Proof.Machine
end

