-- ==== Sys2Proof/Machine/Reset.lean ====
section
/-! DEFINITION. RESET (spec/70_reset_and_hazards.md R107). -/

namespace Sys2Proof.Machine

/-- RESET under given parameters: every state element at its value of R31. The model's own fields are no state element
of CM7 and stay: the words still waiting are the world outside, which a reset does not undo (log entries 3, 4, 5, 12). -/
def resetElements (p : Params) (s : State) : State :=
  { State.resetWith p with answer := s.answer, inputs := s.inputs, turns := s.turns, draws := s.draws }

/-- `RESET`: always enabled (R107). -/
def execReset (s : State) : Result := .next (resetElements Config.params s)

end Sys2Proof.Machine
end

