-- ==== Sys2Proof/Machine/Dispatch.lean ====
section
/-! DEFINITION. One arm per constructor of Instr, each a call of that instruction's meaning. -/

namespace Sys2Proof.Machine

def exec (i : Instr) (s : State) : Host.Outcome State Fault Refusal :=
  match i with
  | .enc c => Sys2Proof.Machine.execEnc c s
  | .tick => Sys2Proof.Machine.execTick s
  | .wrbuf b => Sys2Proof.Machine.execWrbuf b s
  | .discharge => Sys2Proof.Machine.execDischarge s
  | .charge => Sys2Proof.Machine.execCharge s
  | .capture t => Sys2Proof.Machine.execCapture t s
  | .disarm => Sys2Proof.Machine.execDisarm s
  | .convert => Sys2Proof.Machine.execConvert s
  | .rerange => Sys2Proof.Machine.execRerange s
  | .reset => Sys2Proof.Machine.execReset s
  | .reserved9 operand => Sys2Proof.Machine.execReserved9 operand s
  | .reservedAB tag operand => Sys2Proof.Machine.execReservedAB tag operand s
  | .reservedCD tag operand => Sys2Proof.Machine.execReservedCD tag operand s
  | .reservedE operand => Sys2Proof.Machine.execReservedE operand s
  | .sym0 => Sys2Proof.Machine.execSym0 s
  | .sym1 => Sys2Proof.Machine.execSym1 s
  | .sym2 => Sys2Proof.Machine.execSym2 s
  | .sym3 => Sys2Proof.Machine.execSym3 s
  | .sym4 => Sys2Proof.Machine.execSym4 s
  | .sym5 => Sys2Proof.Machine.execSym5 s
  | .sym6 => Sys2Proof.Machine.execSym6 s
  | .sym7 => Sys2Proof.Machine.execSym7 s
  | .sym8 => Sys2Proof.Machine.execSym8 s
  | .sym9 => Sys2Proof.Machine.execSym9 s
  | .symA => Sys2Proof.Machine.execSymA s
  | .symB => Sys2Proof.Machine.execSymB s
  | .symC => Sys2Proof.Machine.execSymC s
  | .symD => Sys2Proof.Machine.execSymD s
  | .symE => Sys2Proof.Machine.execSymE s
  | .symF => Sys2Proof.Machine.execSymF s
  | .symP => Sys2Proof.Machine.execSymP s
  | .symN => Sys2Proof.Machine.execSymN s
  | .symU => Sys2Proof.Machine.execSymU s
  | .symDash => Sys2Proof.Machine.execSymDash s
  | .symUnmapped14 code => Sys2Proof.Machine.execSymUnmapped14 code s
  | .symUnmapped18 code => Sys2Proof.Machine.execSymUnmapped18 code s
  | .dp0 => Sys2Proof.Machine.execDp0 s
  | .dp1 => Sys2Proof.Machine.execDp1 s
  | .dp2 => Sys2Proof.Machine.execDp2 s
  | .dp3 => Sys2Proof.Machine.execDp3 s
  | .dpNone => Sys2Proof.Machine.execDpNone s
  | .dp45 index => Sys2Proof.Machine.execDp45 index s
  | .dp6 => Sys2Proof.Machine.execDp6 s
  | .range1 => Sys2Proof.Machine.execRange1 s
  | .range2 => Sys2Proof.Machine.execRange2 s
  | .range3 => Sys2Proof.Machine.execRange3 s
  | .range4 => Sys2Proof.Machine.execRange4 s
  | .range5 => Sys2Proof.Machine.execRange5 s

end Sys2Proof.Machine
end

