-- ==== Sys2Proof/Machine/Schedule.lean ====
section
/-! DEFINITION. Whose step it is when no word waits to be performed: the agents of spec/00_scope.md R8 in an order the
spec leaves open (spec/20_memory.md R40, spec/60_exceptions.md R92; log entry 4). -/

namespace Sys2Proof.Machine

/-- The sequencer operation a phase enables: exactly one (R75, R110). -/
def sequencerInstr : Phase → Instr
  | .dis => .discharge
  | .chg => .charge
  | .wait => .disarm
  | .cnv => .convert
  | .rng => .rerange

/-- The operation an agent performs on its turn. Taking an interrupt is performing its step (R93). -/
def turnInstr (turn : Turn) (ph : Phase) : Instr :=
  match turn with
  | .sequencer => sequencerInstr ph
  | .tick => .tick
  | .trip t => .capture t
  | .reset => .reset

/-- The operation due when no word waits, and the state with its turn drawn. -/
def freeTurn (s : State) : Instr × State :=
  (turnInstr (Config.schedule s.turns) s.ph, s.setTurns (s.turns + 1))

end Sys2Proof.Machine
end

