-- ==== Sys2Proof/Machine/Step.lean ====
section
/-! DEFINITION. One step: one atomic operation of one agent (spec/20_memory.md R40). CM7 fetches no instructions
(spec/10_state.md R17): a step performs the next waiting word, and where none waits, the operation of the agent whose
turn the open schedule gives (log entries 3 and 4). -/

namespace Sys2Proof.Machine

/-- One step of the machine. -/
def step (s : State) : Host.Outcome State Fault Refusal :=
  match fetch s with
  | some (w, s') =>
    match decode w with
    | .ok i => exec i s'
    | .error r => .refused (.ofDecode r)
  | none => exec (freeTurn s).1 (freeTurn s).2

/-- The state with a word of the opcode table as the next to be performed (log entry 3). -/
def State.withFetchWord (s : State) (nbits w : Nat) : State := s.setInputs (tableWord nbits w :: s.inputs)

end Sys2Proof.Machine
end

