-- ==== Sys2Proof/Machine/Assembler.lean ====
section
/-! DEFINITION. The spec's text for a run of CM7 (spec/30_encoding.md R58) and its pseudo-operations (R59): a line
gives the operations it stands for, and each operation one event word. No step of the machine reads text. -/

namespace Sys2Proof.Machine

/-- A finished token, if any. -/
def flushToken (cur : List Char) : List String := if cur.isEmpty then [] else [String.ofList cur]

/-- The tokens of a line: spaces and commas part them, a semicolon starts a comment (R58). -/
def lexLine : List Char → List Char → List String
  | [], cur => flushToken cur
  | c :: cs, cur =>
    if c = ';' then flushToken cur
    else if c = ' ' ∨ c = ',' then flushToken cur ++ lexLine cs []
    else lexLine cs (cur ++ [c])

/-- A symbol token: a quoted symbol or a raw unmapped code (R47, R58). -/
def symToken (s : String) : Option Sym :=
  (["'0'", "'1'", "'2'", "'3'", "'4'", "'5'", "'6'", "'7'", "'8'", "'9'", "'a'", "'b'", "'c'", "'d'", "'e'", "'f'",
    "'p'", "'n'", "'u'", "'-'", "#0x14", "#0x15", "#0x16", "#0x17", "#0x18", "#0x19", "#0x1A", "#0x1B", "#0x1C",
    "#0x1D", "#0x1E", "#0x1F"].idxOf? s).map (BitVec.ofNat 5)

/-- A decimal-point token (R49, R58). -/
def dpToken (s : String) : Option DpIndex :=
  (["0", "1", "2", "3", "#4", "#5", "#6", "none"].idxOf? s).map (BitVec.ofNat 3)

/-- The value of a list of decimal digits. -/
def decimalValue : List Char → Nat → Option Nat
  | [], n => some n
  | c :: cs, n => if '0' ≤ c ∧ c ≤ '9' then decimalValue cs (10 * n + (c.toNat - 48)) else none

/-- A decimal number. -/
def decimalToken (s : String) : Option Nat := if s.toList.isEmpty then none else decimalValue s.toList 0

/-- A tick count, 0 to 65535 (R58). -/
def countToken (s : String) : Option Count :=
  match decimalToken s with
  | some n => if n < 2 ^ 16 then some (BitVec.ofNat 16 n) else none
  | none => none

/-- The buffer word of five tokens (R50, R58). -/
def bufferTokens (a b c d e : String) : Option BufWord :=
  match symToken a, symToken b, symToken c, symToken d, dpToken e with
  | some g0, some g1, some g2, some g3, some dp => some (Buffer.pack ⟨g0, g1, g2, g3, dp⟩)
  | _, _, _, _, _ => none

/-- `cycle <t>`: a measurement cycle in which the comparator trips with count t; `cycle none`: no trip before the
window closes (R59). -/
def cycleInstrs : Option Count → List Instr
  | some t => [.discharge, .charge, .capture t, .disarm, .convert, .rerange]
  | none => [.discharge, .charge, .disarm, .convert, .rerange]

/-- `ticks <n>`: n copies of `tick` (R59). -/
def ticksInstrs (n : Nat) : List Instr := List.replicate n .tick

/-- The operations a line of tokens stands for (R58, R59). -/
def lineInstrs : List String → Option (List Instr)
  | [] => some []
  | ["enc", a] => (symToken a).map fun c => [.enc c]
  | ["tick"] => some [.tick]
  | ["wrbuf", a, b, c, d, e] => (bufferTokens a b c d e).map fun w => [.wrbuf w]
  | ["show", a, b, c, d, e] => (bufferTokens a b c d e).map fun w => [.wrbuf w]
  | ["discharge"] => some [.discharge]
  | ["charge"] => some [.charge]
  | ["capture", a] => (countToken a).map fun t => [.capture t]
  | ["disarm"] => some [.disarm]
  | ["convert"] => some [.convert]
  | ["rerange"] => some [.rerange]
  | ["reset"] => some [.reset]
  | ["cycle", "none"] => some (cycleInstrs none)
  | ["cycle", a] => (countToken a).map fun t => cycleInstrs (some t)
  | ["ticks", a] => (decimalToken a).map ticksInstrs
  | _ => none

/-- The words a line assembles to; none if it is no line of R58 or R59. -/
def assembleLine (line : String) : Option (List FormatWord) :=
  (lineInstrs (lexLine line.toList [])).map (List.map encode)

end Sys2Proof.Machine
end

