-- ==== Sys2Proof/Safety.lean ====
section
/-! DEFINITION. What a run is and what holds along it, in the terms the statements use (spec/20_memory.md R40,
spec/70_reset_and_hazards.md R110). A safety claim is about every finite run, a liveness claim about every weakly fair
schedule. -/

namespace Sys2Proof.Machine

/-- The operations of a list performed one after another; the first refusal ends the run for good (R56). -/
def runInstrs : List Instr → State → Result
  | [], s => .next s
  | i :: is, s =>
    match exec i s with
    | .next s' => runInstrs is s'
    | .fault f => .fault f
    | .refused r => .refused r

/-- The agents of a list take their turns one after another, each at the phase it finds (R40). -/
def runTurns : List Turn → State → Result
  | [], s => .next s
  | turn :: turns, s =>
    match exec (turnInstr turn s.ph) s with
    | .next s' => runTurns turns s'
    | .fault f => .fault f
    | .refused r => .refused r

/-- The first n turns of a schedule. -/
def turnsUpTo (schedule : Nat → Turn) (n : Nat) : List Turn := (List.range n).map schedule

/-- Weakly fair: the sequencer and the tick source each take infinitely many steps (R110). -/
def WeaklyFair (schedule : Nat → Turn) : Prop :=
  ∀ n, (∃ m, n ≤ m ∧ schedule m = .sequencer) ∧ (∃ m, n ≤ m ∧ schedule m = .tick)

/-- Is the instruction one of the five sequencer operations (R75)? -/
def isSequencerOp : Instr → Bool
  | .discharge | .charge | .disarm | .convert | .rerange => true
  | _ => false

/-- Is the instruction a row of a reserved tag (R55)? -/
def isReservedTag : Instr → Bool
  | .reserved9 _ | .reservedAB _ _ | .reservedCD _ _ | .reservedE _ => true
  | _ => false

/-- Is the instruction TICK? -/
def isTick : Instr → Bool
  | .tick => true
  | _ => false

/-- Does the instruction write the display buffer: WRBUF, CONVERT (R20), or RESET (R107)? -/
def writesBuffer : Instr → Bool
  | .wrbuf _ | .convert | .reset => true
  | _ => false

/-- No CONVERT of the list, performed from s, finds a valid sample (R80, R84): none puts up a reading. -/
def NoReading (l : List Instr) (s : State) : Prop :=
  ∀ (l₁ l₂ : List Instr) (u : State) (c : Count), l = l₁ ++ .convert :: l₂ → runInstrs l₁ s = .next u →
    u.sample = some c → c.toNat < Config.params.sampleMin ∨ Config.params.sampleMax < c.toNat

/-- No operation of the list, performed from s, writes the display buffer: no WRBUF, no RESET, and no CONVERT with a
reading (R20, R84, R107). -/
def NoBufWrite (l : List Instr) (s : State) : Prop :=
  Instr.reset ∉ l ∧ (∀ b, Instr.wrbuf b ∉ l) ∧ NoReading l s

/-- No CONVERT of the list, performed from s, finds that no sample arrived (R84). -/
def EverySampleArrives (l : List Instr) (s : State) : Prop :=
  ∀ (l₁ l₂ : List Instr) (u : State), l = l₁ ++ .convert :: l₂ → runInstrs l₁ s = .next u → u.sample ≠ none

/-- The instruction that the next step performs, if its word decodes: that of the next waiting word, or where none waits,
of the agent whose turn it is (log entries 3 and 4). -/
def performs (s : State) : Option Instr :=
  match fetch s with
  | some (w, _) => (decode w).toOption
  | none => some (freeTurn s).1

/-- No reading is on its way: no valid sample is held, and no scaled value is due to RERANGE (R80, R84, R85). -/
structure NoReadingDue (s : State) : Prop where
  sample : ∀ c, s.sample = some c → c.toNat < Config.params.sampleMin ∨ Config.params.sampleMax < c.toNat
  conv : s.ph = .rng → ∀ v, s.conv ≠ .scaled v

/-- The display buffer that RESET leaves: four dashes and no decimal point (R31). -/
def dashes : Buffer := ⟨0x13, 0x13, 0x13, 0x13, 7⟩

/-- The digit-select lines: none before the first TICK, afterwards exactly the bit `DIG` (R70). -/
def SelectOk (s : State) : Prop := s.sel = 0 ∨ s.sel = onehot4 s.dig

/-- A scaled value fits its 20 bits (R10, R27). -/
def ConvOk (s : State) : Prop := ∀ v, s.conv = .scaled v → v < 2 ^ 20

/-- Capture is enabled exactly in the charge window (R24, R25). -/
def ArmedOk (s : State) : Prop := s.armed = true ↔ s.ph = .wait

/-- A sample is held only between its charge window and the CONVERT that consumes it (R113). -/
def SampleOk (s : State) : Prop := s.sample ≠ none → s.ph = .wait ∨ s.ph = .cnv

/-- There are N_RES charge lines; they are all LOW between DISCHARGE and CHARGE, and exactly the line of the range is
HIGH from CHARGE to RERANGE (R28, R76, R77, R79). -/
def LinesOk (s : State) : Prop :=
  s.chg.length = Config.params.nRes ∧
  (s.ph = .chg → ∀ k, k < Config.params.nRes → s.chg[k]? = some .low) ∧
  (s.ph = .wait ∨ s.ph = .cnv ∨ s.ph = .rng →
    ∀ k, k < Config.params.nRes →
      s.chg[k]? = some (if k = Config.params.resOfRange s.range then ChargeLine.high else .rel))

/-- What holds of the machine after every step, whatever words and turns come. -/
structure Inv (s : State) : Prop where
  select : SelectOk s
  conv : ConvOk s
  armed : ArmedOk s
  sample : SampleOk s
  lines : LinesOk s

end Sys2Proof.Machine
end

