-- ==== Sys2Proof/Certificates/Slice0/Obligations.lean ====
section
/-! DEFINITION. The statements about CM7. Most rules of the spec carry a mark "decision: see D<n>", the spec's own
choice where its source is silent, or "derived": a statement that rests on one says so, and has basis 'derived' in
OBLIGATIONS.json. "The parameters" are `Config.params`: any values that the constraints of R9 allow. -/

open Sys2Proof Sys2Proof.Machine

/-! ### Encodings -/

/-- R47, R49, R51 to R53 (decisions D1, D5, D22, D27): decoding an encoded well-formed instruction gives it back, with
every operand at every value its field admits. -/
def Obligations.DecodeOfEncodeIsIdentity : Prop :=
  ∀ i : Instr, i.wellFormed = true → decode (encode i) = .ok i

/-- The other direction: a word that decodes at all is the word of the instruction it decodes to, in every format. -/
def Obligations.EncodeOfDecodeIsIdentity : Prop :=
  ∀ (w : FormatWord) (i : Instr), decode w = .ok i → i.wellFormed = true ∧ encode i = w

/-- R52, R53, R54 (decisions D22, D26), in arithmetic: with t the top four bits and x the other 28, what every event
word decodes to. A reserved tag decodes to a row that every state refuses with `reservedTag` (R56; that it is a row at
all is the model's choice, log entry 8). -/
def Obligations.EventWordDecodesByTagAndOperand : Prop :=
  ∀ w : EventWord,
    let t := w.toNat / 2 ^ 28
    let x := w.toNat % 2 ^ 28
    let bare (i : Instr) : Except DecodeRefusal Instr := if x = 0 then .ok i else .error .reservedBits
    (t = 0x0 → decode (.ev w) = if x < 2 ^ 5 then .ok (.enc (BitVec.ofNat 5 x)) else .error .reservedBits) ∧
    (t = 0x1 → decode (.ev w) = bare .tick) ∧
    (t = 0x2 → decode (.ev w) = if x < 2 ^ 23 then .ok (.wrbuf (BitVec.ofNat 23 x)) else .error .reservedBits) ∧
    (t = 0x3 → decode (.ev w) = bare .discharge) ∧
    (t = 0x4 → decode (.ev w) = bare .charge) ∧
    (t = 0x5 → decode (.ev w) = if x < 2 ^ 16 then .ok (.capture (BitVec.ofNat 16 x)) else .error .reservedBits) ∧
    (t = 0x6 → decode (.ev w) = bare .disarm) ∧
    (t = 0x7 → decode (.ev w) = bare .convert) ∧
    (t = 0x8 → decode (.ev w) = bare .rerange) ∧
    (0x9 ≤ t → t ≤ 0xE → ∃ i, decode (.ev w) = .ok i ∧ ∀ s, exec i s = .refused .reservedTag) ∧
    (t = 0xF → decode (.ev w) = bare .reset)

/-- A few words written out from R52's table, R47, R49 and R51 decode to the instruction they stand for, and one with a
nonzero reserved bit does not (R54). That a reserved tag decodes to a row, and that the range code 6 has a refusal of its
own name, `illegalRangeCode`, is no rule but the model's choice (log entry 8). -/
def Obligations.WrittenOutWordsDecode : Prop :=
  decode (.ev 0b0000_00000000000000000000000_10011#32) = .ok (.enc 0x13) ∧
  decode (.ev 0b0001_0000000000000000000000000000#32) = .ok .tick ∧
  decode (.ev 0b0010_00000_001_10001_00011_00010_00001#32) = .ok (.wrbuf 0x188C41) ∧
  decode (.ev 0b0011_0000000000000000000000000000#32) = .ok .discharge ∧
  decode (.ev 0b0101_000000000000_0000000111000010#32) = .ok (.capture 450) ∧
  decode (.ev 0b1000_0000000000000000000000000000#32) = .ok .rerange ∧
  decode (.ev 0b1111_0000000000000000000000000000#32) = .ok .reset ∧
  decode (.ev 0b1010_0000000000000000000000000000#32) = .ok (.reservedAB 0xA 0) ∧
  decode (.ev 0b0000_00000000000000000000001_00000#32) = .error .reservedBits ∧
  decode (.sym 0b10010#5) = .ok .symU ∧ decode (.sym 0b11111#5) = .ok (.symUnmapped18 0x1F) ∧
  decode (.dp 0b111#3) = .ok .dpNone ∧ decode (.dp 0b101#3) = .ok (.dp45 5) ∧
  decode (.rng 0b100#3) = .ok .range4 ∧ decode (.rng 0b110#3) = .error .illegalRangeCode

/-! ### One step -/

/-- A step performs the instruction its next waiting word decodes to, in the state without that word, and adds nothing
of its own: CM7 has no program counter to move (R17). The list of waiting words is the model's (log entry 3). -/
def Obligations.StepPerformsDecodedWord : Prop :=
  ∀ (s : State) (w : FormatWord) (rest : List FormatWord) (i : Instr),
    s.inputs = w :: rest → decode w = .ok i → step s = exec i { s with inputs := rest }

/-- R54, R56 (decision D26): a word the decoder refuses is no step: an event word with a nonzero reserved bit is
`reservedBits`, a range code 0, 6 or 7 (R51) is `illegalRangeCode`, the model's name (log entry 8). -/
def Obligations.StepRefusesUndecodableWord : Prop :=
  ∀ (s : State) (rest : List FormatWord) (r : DecodeRefusal),
    (∀ w : EventWord, s.inputs = .ev w :: rest → decode (.ev w) = .error r → step s = .refused .reservedBits) ∧
    (∀ w : BitVec 3, s.inputs = .rng w :: rest → (w.toNat = 0 ∨ w.toNat = 6 ∨ w.toNat = 7) →
      step s = .refused .illegalRangeCode)

/-- R8, R40, R75 (decision D24): where no word waits, the agent whose turn the open schedule gives takes its step; the
sequencer's is the operation its phase enables. The schedule and its counter are the model's (log entry 4). -/
def Obligations.StepTakesFreeTurn : Prop :=
  ∀ s : State, s.inputs = [] →
    step s =
      exec (match Config.schedule s.turns, s.ph with
            | .tick, _ => .tick
            | .trip t, _ => .capture t
            | .reset, _ => .reset
            | .sequencer, .dis => .discharge
            | .sequencer, .chg => .charge
            | .sequencer, .wait => .disarm
            | .sequencer, .cnv => .convert
            | .sequencer, .rng => .rerange)
        { s with turns := s.turns + 1 }

/-! ### The glyph encoder and the code rows -/

/-- R61 (decision D3; the masks are the spec's general knowledge, log entry 10): ENC returns the mask of the table for
every code, 0x40 for an unmapped one, and every element of the state is as before. That the mask appears in `answer` is
the model's choice (log entry 5). -/
def Obligations.EncReturnsTableMask : Prop :=
  ∀ (c : Sym) (s : State),
    exec (.enc c) s =
      .next { s with answer := .mask (([0x3F, 0x06, 0x5B, 0x4F, 0x66, 0x6D, 0x7D, 0x07, 0x7F, 0x6F,
        0x77, 0x7C, 0x39, 0x5E, 0x79, 0x71, 0x73, 0x54, 0x1C, 0x40] : List Mask).getD c.toNat 0x40) }

/-- R63 (derived from R61): the 20 mapped codes have 20 different masks, and an unmapped code has that of `'-'`. -/
def Obligations.MappedGlyphsAreOneToOne : Prop :=
  (∀ c d : Sym, c.toNat ≤ 0x13 → d.toNat ≤ 0x13 → glyphMask c = glyphMask d → c = d) ∧
  (∀ c d : Sym, 0x14 ≤ c.toNat → d.toNat ≤ 0x13 → (glyphMask c = glyphMask d ↔ d = 0x13))

/-- R64: bit 7 of every mask is 0; in every state TICK drives the decimal-point line from `BUF.dp`, lit exactly if it is
the index of the digit selected, whatever the glyphs are; and a query of the encoder never changes the line. -/
def Obligations.EncoderNeverDrivesDecimalPoint : Prop :=
  (∀ c : Sym, (glyphMask c)[7] = false) ∧
  (∀ s : State, ∃ t, exec .tick s = .next t ∧ (t.dpl = true ↔ s.buf.dp.toNat = t.dig.toNat)) ∧
  (∀ (c : Sym) (s : State), ∃ t, exec (.enc c) s = .next t ∧ t.dpl = s.dpl)

/-- R61, R102 (decisions D1, D3): each symbol row answers the mask of its code and every element of the state is as
before. Performing a symbol code alone as a query of the encoder port is the model's choice (log entry 6). -/
def Obligations.SymbolRowsReturnTheirMask : Prop :=
  ∀ s : State,
    (∀ row ∈ ([(.sym0, 0x3F), (.sym1, 0x06), (.sym2, 0x5B), (.sym3, 0x4F), (.sym4, 0x66), (.sym5, 0x6D),
        (.sym6, 0x7D), (.sym7, 0x07), (.sym8, 0x7F), (.sym9, 0x6F), (.symA, 0x77), (.symB, 0x7C), (.symC, 0x39),
        (.symD, 0x5E), (.symE, 0x79), (.symF, 0x71), (.symP, 0x73), (.symN, 0x54), (.symU, 0x1C),
        (.symDash, 0x40)] : List (Instr × Mask)),
      exec row.1 s = .next { s with answer := .mask row.2 }) ∧
    (∀ c : Sym, 0x14 ≤ c.toNat → c.toNat ≤ 0x17 → exec (.symUnmapped14 c) s = .next { s with answer := .mask 0x40 }) ∧
    (∀ c : Sym, 0x18 ≤ c.toNat → exec (.symUnmapped18 c) s = .next { s with answer := .mask 0x40 })

/-- R49 (decision D5): 0 to 3 name a digit, 4 to 6 and NONE name none; every element of the state is as before.
Performing a decimal-point index alone as a lookup is the model's choice (log entry 6). -/
def Obligations.DecimalPointRowsNameTheirDigit : Prop :=
  ∀ s : State,
    exec .dp0 s = .next { s with answer := .digit (some 0) } ∧
    exec .dp1 s = .next { s with answer := .digit (some 1) } ∧
    exec .dp2 s = .next { s with answer := .digit (some 2) } ∧
    exec .dp3 s = .next { s with answer := .digit (some 3) } ∧
    exec .dpNone s = .next { s with answer := .digit none } ∧
    (∀ x : DpIndex, x.toNat = 4 ∨ x.toNat = 5 → exec (.dp45 x) s = .next { s with answer := .digit none }) ∧
    exec .dp6 s = .next { s with answer := .digit none }

/-- R81, R82: each range row answers its factor, divisor, unit and decimal-point index; every element of the state is as
before. Performing a range setting alone as a lookup is the model's choice (log entry 6). -/
def Obligations.RangeRowsReturnTheirTableRow : Prop :=
  ∀ s : State,
    exec .range1 s = .next { s with answer := .rangeRow ⟨10, 1, 0x10, 1⟩ } ∧
    exec .range2 s = .next { s with answer := .rangeRow ⟨1, 1, 0x11, 1⟩ } ∧
    exec .range3 s = .next { s with answer := .rangeRow ⟨1, 10, 0x11, 0b111⟩ } ∧
    exec .range4 s = .next { s with answer := .rangeRow ⟨1, 100, 0x12, 1⟩ } ∧
    exec .range5 s = .next { s with answer := .rangeRow ⟨1, 10000, 0x12, 0b111⟩ }

/-- R55, R56 (decision D26): a reserved tag is never a state change and never a no-op, in any state, with any
operand. -/
def Obligations.ReservedTagsAreRefused : Prop :=
  ∀ (s : State) (tag : BitVec 4) (x : BitVec 28),
    exec (.reserved9 x) s = .refused .reservedTag ∧ exec (.reservedAB tag x) s = .refused .reservedTag ∧
    exec (.reservedCD tag x) s = .refused .reservedTag ∧ exec (.reservedE x) s = .refused .reservedTag

/-! ### The refresh multiplexer -/

/-- R67 (decision D7): TICK completes in every state; it selects the next digit, drives that digit's mask on the
segments, its decimal point and its select line, and changes nothing else. -/
def Obligations.TickDrivesNextDigit : Prop :=
  ∀ s : State, ∃ (d : Digit) (g : Sym),
    d.toNat = (s.dig.toNat + 1) % 4 ∧
    (d.toNat = 0 → g = s.buf.g0) ∧ (d.toNat = 1 → g = s.buf.g1) ∧
    (d.toNat = 2 → g = s.buf.g2) ∧ (d.toNat = 3 → g = s.buf.g3) ∧
    exec .tick s =
      .next { s with
        dig := d
        seg := BitVec.ofNat 7 (glyphMask g).toNat
        dpl := s.buf.dp.toNat == d.toNat
        sel := BitVec.ofNat 4 (2 ^ d.toNat) }

/-- R69: after a TICK the decimal-point line is lit if and only if the digit just selected equals `BUF.dp`; NONE and
4, 5, 6 light none; at most one digit's decimal point is lit, since only one digit is selected. -/
def Obligations.DecimalPointLitIffIndexIsDigit : Prop :=
  ∀ s : State, ∃ t : State, exec .tick s = .next t ∧
    (t.dpl = true ↔ t.dig.toNat = s.buf.dp.toNat) ∧
    (4 ≤ s.buf.dp.toNat → t.dpl = false) ∧
    (∀ i j : Fin 4, t.sel[i] = true ∧ t.dpl = true → t.sel[j] = true ∧ t.dpl = true → i = j)

/-- R34, R50, R68 (decisions D6, D9, D22): WRBUF completes in every state; it replaces the five fields by those whose
packed sum is the word, and changes nothing else, no output line among them. -/
def Obligations.WrbufReplacesWholeBuffer : Prop :=
  ∀ (b : BufWord) (s : State), ∃ f : Buffer,
    b.toNat = f.g0.toNat + f.g1.toNat * 2 ^ 5 + f.g2.toNat * 2 ^ 10 + f.g3.toNat * 2 ^ 15 + f.dp.toNat * 2 ^ 20 ∧
    exec (.wrbuf b) s = .next { s with buf := f }

/-- R70, R74 (R70 is derived from R67 and R31; R74 is decision D4): whatever the polarity, after a TICK exactly one
digit-select pin is at its active level, and it is that of `DIG`. -/
def Obligations.TickSelectsExactlyOneDigitPin : Prop :=
  ∀ s : State, ∃ t : State, exec .tick s = .next t ∧
    ∀ (p : Params) (i : Fin 4), (selPin p t i = !p.selActiveLow) ↔ i.val = t.dig.toNat

/-! ### The measurement sequencer -/

/-- R76 (decision D20): DISCHARGE completes in `P_DIS`; it drives every charge line LOW, goes to `P_CHG`, and changes
nothing else. -/
def Obligations.DischargeDrivesEveryLineLow : Prop :=
  ∀ s : State, s.ph = .dis → ∃ lines : List ChargeLine,
    lines.length = Config.params.nRes ∧ (∀ k, k < Config.params.nRes → lines[k]? = some .low) ∧
    exec .discharge s = .next { s with chg := lines, ph := .chg }

/-- R77 (decision D20): CHARGE completes in `P_CHG`; it drives the line of the range HIGH, releases the others, forgets
any sample, enables capture, goes to `P_WAIT`, and changes nothing else. -/
def Obligations.ChargeDrivesLineOfRange : Prop :=
  ∀ s : State, s.ph = .chg → ∃ lines : List ChargeLine,
    lines.length = Config.params.nRes ∧
    (∀ k, k < Config.params.nRes →
      lines[k]? = some (if k = Config.params.resOfRange s.range then ChargeLine.high else .rel)) ∧
    Config.params.resOfRange s.range < Config.params.nRes ∧
    exec .charge s = .next { s with chg := lines, sample := none, armed := true, ph := .wait }

/-- R78 (decision D21): CAPTURE completes in every state; when armed and empty it records the count, any count, and
otherwise it changes nothing. -/
def Obligations.CaptureRecordsOnlyFirstArmedTrip : Prop :=
  ∀ (c : Count) (s : State),
    (s.armed = true → s.sample = none → exec (.capture c) s = .next { s with sample := some c }) ∧
    (s.armed = false ∨ s.sample ≠ none → exec (.capture c) s = .next s)

/-- R79 (decision D30): DISARM completes in `P_WAIT`; it disables capture, goes to `P_CNV`, and changes nothing else: the
sample and the charge lines stay. -/
def Obligations.DisarmClosesWindow : Prop :=
  ∀ s : State, s.ph = .wait → exec .disarm s = .next { s with armed := false, ph := .cnv }

/-- R80, R84 (decisions D13, D29): in `P_CNV` without a valid sample CONVERT completes, notes which it was, forgets the
sample and writes no buffer field. The value bits beside that outcome, which no rule gives, are any; the count of the
free values drawn is the model's (log entry 12). -/
def Obligations.ConvertWithoutReading : Prop :=
  ∀ s : State, s.ph = .cnv →
    (s.sample = none → ∃ rest, exec .convert s = .next { s with conv := .noSample rest, ph := .rng, draws := s.draws + 1 }) ∧
    (∀ c, s.sample = some c → (c.toNat < Config.params.sampleMin ∨ Config.params.sampleMax < c.toNat) →
      ∃ rest, exec .convert s =
        .next { s with conv := .rejected rest, sample := none, ph := .rng, draws := s.draws + 1 })

/-- R80 to R84 (decisions D13, D14, D15, D29; R82 has none): in `P_CNV` with a valid sample CONVERT completes with the
scaled value of the range's row, its three digits, unit and decimal-point index in the buffer, and the sample consumed;
nothing else changes. -/
def Obligations.ConvertShowsReading : Prop :=
  ∀ (s : State) (c : Count), s.ph = .cnv → s.sample = some c →
    Config.params.sampleMin ≤ c.toNat → c.toNat ≤ Config.params.sampleMax →
    let v := match s.range with
      | .r1 => c.toNat * 10
      | .r2 => c.toNat
      | .r3 => c.toNat / 10
      | .r4 => c.toNat / 100
      | .r5 => c.toNat / 10000
    ∃ f : Buffer,
      f.g0.toNat = v / 100 % 10 ∧ f.g1.toNat = v / 10 % 10 ∧ f.g2.toNat = v % 10 ∧
      f.g3 = (match s.range with | .r1 => 0x10 | .r2 => 0x11 | .r3 => 0x11 | .r4 => 0x12 | .r5 => 0x12) ∧
      f.dp = (match s.range with | .r1 => 1 | .r2 => 1 | .r3 => 0b111 | .r4 => 1 | .r5 => 0b111) ∧
      exec .convert s = .next { s with buf := f, conv := .scaled v, sample := none, ph := .rng }

/-- R82: the unit glyph and decimal-point index that a reading puts into the buffer are those of its range. -/
def Obligations.ReadingHasUnitAndPointOfRange : Prop :=
  ∀ (s t : State) (v : Nat), exec .convert s = .next t → t.conv = .scaled v →
    ((s.range = .r1 → t.buf.g3 = 0x10 ∧ t.buf.dp = 1) ∧
     (s.range = .r2 → t.buf.g3 = 0x11 ∧ t.buf.dp = 1) ∧
     (s.range = .r3 → t.buf.g3 = 0x11 ∧ t.buf.dp = 0b111) ∧
     (s.range = .r4 → t.buf.g3 = 0x12 ∧ t.buf.dp = 1) ∧
     (s.range = .r5 → t.buf.g3 = 0x12 ∧ t.buf.dp = 0b111))

/-- R83 (decision D15): the three digits of a reading are decimal digits, and read as a number they are the scaled value
modulo 1000, at every range and every count. -/
def Obligations.ReadingShowsValueModulo1000 : Prop :=
  ∀ (s t : State) (v : Nat), exec .convert s = .next t → t.conv = .scaled v →
    t.buf.g0.toNat < 10 ∧ t.buf.g1.toNat < 10 ∧ t.buf.g2.toNat < 10 ∧
    100 * t.buf.g0.toNat + 10 * t.buf.g1.toNat + t.buf.g2.toNat = v % 1000

/-- R80 (decision D13; the two counts are the source's): under any legal parameters the counts 0 and 60000 are rejected
and the buffer is unchanged. -/
def Obligations.CountsZeroAnd60000AreRejected : Prop :=
  ∀ s : State, s.ph = .cnv → s.sample = some 0 ∨ s.sample = some 60000 →
    ∃ t : State, exec .convert s = .next t ∧ (∃ rest, t.conv = .rejected rest) ∧ t.buf = s.buf

/-- R85 (decisions D16, D17): RERANGE completes in `P_RNG` for every outcome of CONVERT; in the codes 1 to 5 it steps
down below the low threshold, up above the high one, and on no sample by the policy; only `RANGE` and `PH` change. -/
def Obligations.RerangeStepsByThresholds : Prop :=
  ∀ s : State, s.ph = .rng → ∃ r : RangeSetting,
    exec .rerange s = .next { s with range := r, ph := .dis } ∧
    rangeCode r =
      match s.conv with
      | .scaled v =>
        if v < Config.params.threshLow then max 1 (rangeCode s.range - 1)
        else if Config.params.threshHigh < v then min 5 (rangeCode s.range + 1)
        else rangeCode s.range
      | .rejected _ => rangeCode s.range
      | .noSample _ =>
        if Config.params.noSamplePolicy = .stepUp then min 5 (rangeCode s.range + 1) else rangeCode s.range

/-- R75 (decision D19): each of the five sequencer operations completes in its phase and sets the next phase of the
cycle, and in every other phase it is refused. -/
def Obligations.SequencerOperationsFollowTheCycle : Prop :=
  ∀ row ∈ ([(.discharge, .dis, .chg), (.charge, .chg, .wait), (.disarm, .wait, .cnv), (.convert, .cnv, .rng),
      (.rerange, .rng, .dis)] : List (Instr × Phase × Phase)),
    ∀ s : State,
      (s.ph = row.2.1 → ∃ t, exec row.1 s = .next t ∧ t.ph = row.2.2) ∧
      (s.ph ≠ row.2.1 → exec row.1 s = .refused .outOfPhase)

/-- R110 (decision D24): in every state TICK completes, and exactly one sequencer operation does. -/
def Obligations.ExactlyOneSequencerOperationIsEnabled : Prop :=
  ∀ s : State, (∃ t, exec .tick s = .next t) ∧
    ∃! i : Instr, isSequencerOp i = true ∧ ∃ t, exec i s = .next t

/-- R56, R75, R89 (decisions D19, D26 for R56 and R75): an instruction fails to complete only if it is a row of a
reserved tag or a sequencer operation out of its phase, and no instruction faults. That the rows of the bare codes
(symbols, decimal-point indices, range settings) complete as steps is no rule but the model's choice (log entry 6). -/
def Obligations.EverythingElseCompletes : Prop :=
  ∀ (i : Instr) (s : State),
    ((∃ t, exec i s = .next t) ↔
      isReservedTag i = false ∧
      (i = .discharge → s.ph = .dis) ∧ (i = .charge → s.ph = .chg) ∧ (i = .disarm → s.ph = .wait) ∧
      (i = .convert → s.ph = .cnv) ∧ (i = .rerange → s.ph = .rng)) ∧
    ∀ f, exec i s ≠ .fault f

/-! ### Who writes what -/

/-- R72 (derived): no operation but TICK and RESET changes the segment lines, the decimal-point line, the select lines,
or (R21) the digit index. -/
def Obligations.OnlyTickAndResetDriveDisplay : Prop :=
  ∀ (i : Instr) (s t : State), exec i s = .next t → i ≠ .tick → i ≠ .reset →
    t.seg = s.seg ∧ t.dpl = s.dpl ∧ t.sel = s.sel ∧ t.dig = s.dig

/-- R20, R32, R107: no operation but WRBUF, CONVERT and RESET changes the display buffer. -/
def Obligations.OnlyWritersChangeBuffer : Prop :=
  ∀ (i : Instr) (s t : State), exec i s = .next t → (∀ b, i ≠ .wrbuf b) → i ≠ .convert → i ≠ .reset → t.buf = s.buf

/-- R86 (derived; the bound is the source's): RERANGE changes the range by -1, 0 or +1, and no other operation but RESET
changes it. -/
def Obligations.RangeMovesByAtMostOneInRerange : Prop :=
  ∀ (i : Instr) (s t : State), exec i s = .next t → i ≠ .reset →
    (i ≠ .rerange → t.range = s.range) ∧
    rangeCode t.range ≤ rangeCode s.range + 1 ∧ rangeCode s.range ≤ rangeCode t.range + 1

/-- R75, R94 (decisions D19, D32): the interrupts leave the sequencer where it is: TICK changes only the display and
CAPTURE only the sample. -/
def Obligations.InterruptsKeepTheSequencer : Prop :=
  ∀ (s : State) (c : Count),
    (∃ t, exec .tick s = .next t ∧ t = { s with dig := t.dig, seg := t.seg, dpl := t.dpl, sel := t.sel }) ∧
    (∃ t, exec (.capture c) s = .next t ∧ t = { s with sample := t.sample })

/-- R32, R67, R72, R78 (decisions D7, D21): the buffer is all that a tick and the other agents share, so a tick and any
operation that writes neither the buffer nor the display, a trip among them, leave the same state in either order (one
refused in one order is refused in the other). -/
def Obligations.TickCommutesWithNonWriters : Prop :=
  ∀ (i : Instr) (s : State), writesBuffer i = false →
    runInstrs [.tick, i] s = runInstrs [i, .tick] s

/-! ### Reset -/

/-- R107, R31 (decisions D7, D10, D11, D19, D20, D21, D31, D34; `RANGE` = 3 is the source's): RESET completes in every
state and leaves every element at its value of R31. That the model's own fields stay is its choice (log entries
3, 4, 5, 12). -/
def Obligations.ResetLeavesTableValues : Prop :=
  ∀ s : State, ∃ lines : List ChargeLine,
    lines.length = Config.params.nRes ∧ (∀ k, k < Config.params.nRes → lines[k]? = some .rel) ∧
    exec .reset s =
      .next { buf := ⟨0x13, 0x13, 0x13, 0x13, 7⟩, dig := 3, seg := 0, dpl := false, sel := 0, range := .r3, ph := .dis,
              armed := false, sample := none, conv := .rejected 0, chg := lines,
              answer := s.answer, inputs := s.inputs, turns := s.turns, draws := s.draws }

/-- R31, R107: the machine right after reset is what RESET leaves of it, and R108 (derived): its one enabled sequencer
operation is DISCHARGE, and its first TICK selects digit 0 and shows `'-'` without a decimal point. -/
def Obligations.ResetStateIsTheStartOfTheCycle : Prop :=
  exec .reset State.reset = .next State.reset ∧
  (∃ t, exec .discharge State.reset = .next t) ∧
  exec .charge State.reset = .refused .outOfPhase ∧ exec .disarm State.reset = .refused .outOfPhase ∧
  exec .convert State.reset = .refused .outOfPhase ∧ exec .rerange State.reset = .refused .outOfPhase ∧
  ∃ t, exec .tick State.reset = .next t ∧ t.dig = 0 ∧ t.sel = 1 ∧ t.seg = 0x40 ∧ t.dpl = false

/-! ### Every step and every run -/

/-- Every step keeps the invariant, from every state that has it, whatever words wait and whoever's turn it is: at most
one digit selected and it is `DIG` (R70); a scaled value fits 20 bits (R10, R27); capture enabled exactly in `P_WAIT`
(R24, R25); no sample outside its own cycle (R113); and the charge lines as the phase says (R28, R76, R77, D30). -/
def Obligations.StepKeepsInvariant : Prop :=
  ∀ s t : State, Inv s → step s = .next t → Inv t

/-- The invariant holds of the machine right after reset (R31). -/
def Obligations.ResetHasInvariant : Prop :=
  Inv State.reset

/-- R71 (derived from R67 and R31; the property is the source's): in a run that begins with a RESET, in any state, and
has no other, the k-th TICK selects digit (k - 1) mod 4, whatever other operations fall between. -/
def Obligations.KthTickSelectsDigitKMinusOneMod4 : Prop :=
  ∀ (l : List Instr) (s t : State), Instr.reset ∉ l →
    runInstrs (.reset :: l ++ [.tick]) s = .next t →
    t.dig.toNat = (l.countP isTick) % 4 ∧ t.sel = BitVec.ofNat 4 (2 ^ ((l.countP isTick) % 4))

/-- R41 (derived from R33, R34, R40; the property is the source's): after any run from any state the buffer is the one
the run began with, if no operation wrote it, or all five fields of the last write: the word of a WRBUF, the reading of a
CONVERT that found a valid sample (a CONVERT that found none is no write), or the dashes of a RESET. So a TICK never sees
digits of one write beside a decimal-point index of another. -/
def Obligations.BufferIsWholeFromOneWrite : Prop :=
  ∀ (l : List Instr) (s t : State), runInstrs l s = .next t →
    (t.buf = s.buf ∧ NoBufWrite l s) ∨
    ∃ (l₁ l₂ : List Instr) (i : Instr) (u v : State),
      l = l₁ ++ i :: l₂ ∧ runInstrs l₁ s = .next u ∧ exec i u = .next v ∧ runInstrs l₂ v = .next t ∧ NoBufWrite l₂ v ∧
      ((∃ b : BufWord, i = .wrbuf b ∧
          b.toNat = t.buf.g0.toNat + t.buf.g1.toNat * 2 ^ 5 + t.buf.g2.toNat * 2 ^ 10 + t.buf.g3.toNat * 2 ^ 15 +
            t.buf.dp.toNat * 2 ^ 20) ∨
        (i = .reset ∧ t.buf = dashes) ∨
        (i = .convert ∧ ∃ c : Count, u.sample = some c ∧
          Config.params.sampleMin ≤ c.toNat ∧ c.toNat ≤ Config.params.sampleMax ∧
          t.buf.g0.toNat = scale u.range c / 100 % 10 ∧ t.buf.g1.toNat = scale u.range c / 10 % 10 ∧
          t.buf.g2.toNat = scale u.range c % 10 ∧
          t.buf.g3 = (rangeRow u.range).unit ∧ t.buf.dp = (rangeRow u.range).dp))

/-- R78 (decision D21; "exactly one" is the source's): a recorded sample stays, however many trips follow, until CHARGE,
CONVERT or RESET. -/
def Obligations.FirstSampleOfWindowIsKept : Prop :=
  ∀ (l : List Instr) (s t : State) (c : Count), s.sample = some c →
    Instr.charge ∉ l → Instr.convert ∉ l → Instr.reset ∉ l → runInstrs l s = .next t → t.sample = some c

/-- R75 to R85, R59, R72 (decisions as in those rules): from the start of the cycle in any state, a cycle in which the
comparator trips with a valid count completes, puts the reading of the old range into the buffer, leaves `PH` at the
start of the next cycle, capture disabled and no sample, moves the range by at most one, and does not touch the lines of
the display. -/
def Obligations.MeasurementCycleShowsReading : Prop :=
  ∀ (s : State) (c : Count), s.ph = .dis →
    Config.params.sampleMin ≤ c.toNat → c.toNat ≤ Config.params.sampleMax →
    ∃ t : State, runInstrs (cycleInstrs (some c)) s = .next t ∧
      100 * t.buf.g0.toNat + 10 * t.buf.g1.toNat + t.buf.g2.toNat = scale s.range c % 1000 ∧
      t.buf.g3 = (rangeRow s.range).unit ∧ t.buf.dp = (rangeRow s.range).dp ∧
      t.conv = .scaled (scale s.range c) ∧
      t.ph = .dis ∧ t.armed = false ∧ t.sample = none ∧
      rangeCode t.range ≤ rangeCode s.range + 1 ∧ rangeCode s.range ≤ rangeCode t.range + 1 ∧
      t.dig = s.dig ∧ t.seg = s.seg ∧ t.dpl = s.dpl ∧ t.sel = s.sel

/-- R84, R85, R90 (decisions D17, D29): from the start of the cycle in any state, a cycle without a trip completes,
leaves the buffer, and steps the range up exactly if the policy says so. -/
def Obligations.CycleWithoutTripFollowsPolicy : Prop :=
  ∀ s : State, s.ph = .dis →
    ∃ t : State, runInstrs (cycleInstrs none) s = .next t ∧
      t.buf = s.buf ∧ (∃ rest, t.conv = .noSample rest) ∧ t.ph = .dis ∧
      rangeCode t.range =
        if Config.params.noSamplePolicy = .stepUp then min 5 (rangeCode s.range + 1) else rangeCode s.range

/-- R114 (derived from R84 and R85): from any state without a valid sample and without a scaled value due to RERANGE, as
long as every count that comes is invalid and no WRBUF or RESET does, the buffer stays; and the range stays too, under the
policy Hold whether counts come or not, and under StepUp if one comes in every charge window. -/
def Obligations.RejectedCountsFreezeDisplayAndRange : Prop :=
  ∀ (l : List Instr) (s t : State), runInstrs l s = .next t →
    (∀ c, s.sample = some c → c.toNat < Config.params.sampleMin ∨ Config.params.sampleMax < c.toNat) →
    (s.ph = .rng → ∀ v, s.conv ≠ .scaled v) → Instr.reset ∉ l → (∀ b, Instr.wrbuf b ∉ l) →
    (∀ c, Instr.capture c ∈ l → c.toNat < Config.params.sampleMin ∨ Config.params.sampleMax < c.toNat) →
    t.buf = s.buf ∧
    (Config.params.noSamplePolicy = .hold → t.range = s.range) ∧
    ((s.ph = .rng → ∀ rest, s.conv ≠ .noSample rest) → EverySampleArrives l s → t.range = s.range)

/-- R108 (derived from R107 and R31): in a run that begins with a RESET, in any state, and has no WRBUF, until the first
CONVERT with a valid sample every TICK shows `'-'` with no decimal point, whatever else happens, more RESETs too. -/
def Obligations.DashesUntilFirstReading : Prop :=
  ∀ (l : List Instr) (s t : State),
    (∀ b, Instr.wrbuf b ∉ l) → NoReading (.reset :: l) s →
    runInstrs (.reset :: l ++ [.tick]) s = .next t → t.seg = 0x40 ∧ t.dpl = false

/-- R110 (decision D24): a run never ends: whatever the order of the agents, every turn completes; and with no word
waiting the machine itself takes any number of steps, those of its open schedule (log entry 4). -/
def Obligations.FreeRunNeverEnds : Prop :=
  (∀ (l : List Turn) (s : State), ∃ t, runTurns l s = .next t) ∧
  (∀ (n : Nat) (s : State), s.inputs = [] →
    ∃ t : State, Host.Core.run core n s = .next t ∧ t.inputs = [] ∧ t.turns = s.turns + n ∧
      ∃ u : State, runTurns ((List.range n).map fun k => Config.schedule (s.turns + k)) s = .next u ∧
        t = { u with turns := s.turns + n })

/-- R110, R115 (decision D24; R115 is derived from R75): under every weakly fair schedule without RESET, from every
state, every phase comes again and again: the sequencer never waits on the environment, whether a trip comes or not. -/
def Obligations.FairRunsVisitEveryPhaseForever : Prop :=
  ∀ schedule : Nat → Turn, WeaklyFair schedule → (∀ n, schedule n ≠ .reset) →
    ∀ (s : State) (ph : Phase) (n : Nat),
      ∃ m, n ≤ m ∧ ∃ t, runTurns (turnsUpTo schedule m) s = .next t ∧ t.ph = ph

/-! ### The steps behind the long runs, and the pins -/

/-- R67, R71, R107 (decisions D7, D31): one step of R71, from every state: RESET leaves the digit index at 3, TICK advances
it modulo 4 and selects its line alone, and every other operation leaves index and lines as they are. -/
def Obligations.EachStepKeepsTheRotation : Prop :=
  ∀ (i : Instr) (s t : State), exec i s = .next t →
    (i = .reset → t.dig.toNat = 3 ∧ t.sel = 0) ∧
    (i = .tick → t.dig.toNat = (s.dig.toNat + 1) % 4 ∧ t.sel = BitVec.ofNat 4 (2 ^ t.dig.toNat)) ∧
    (i ≠ .reset → i ≠ .tick → t.dig = s.dig ∧ t.sel = s.sel)

/-- R67, R84, R107, R108 (decisions D7, D29, D31): one step of R108: RESET leaves the dashes in the buffer from every state;
from every state that has them, every operation keeps them but WRBUF and a CONVERT that finds a valid sample; and a TICK
there shows `'-'` with no decimal point. -/
def Obligations.EachStepKeepsTheDashes : Prop :=
  ∀ (i : Instr) (s t : State), exec i s = .next t →
    (i = .reset → t.buf = dashes) ∧
    (s.buf = dashes →
      ((∀ b, i ≠ .wrbuf b) →
        (i = .convert → ∀ c, s.sample = some c →
          c.toNat < Config.params.sampleMin ∨ Config.params.sampleMax < c.toNat) →
        t.buf = dashes) ∧
      (i = .tick → t.seg = 0x40 ∧ t.dpl = false))

/-- R74 (decision D4): in every state the level of each of the twelve pins is its line's logical value, inverted if and
only if its polarity is active low. -/
def Obligations.PinLevelsFollowPolarity : Prop :=
  ∀ (p : Params) (s : State),
    (∀ i : Fin 7, segPin p s i = if p.segActiveLow then !s.seg[i] else s.seg[i]) ∧
    (dpPin p s = if p.segActiveLow then !s.dpl else s.dpl) ∧
    (∀ i : Fin 4, selPin p s i = if p.selActiveLow then !s.sel[i] else s.sel[i])

/-- R67, R74 (decisions D4, D7): after a TICK, whatever the polarity, a segment pin is at its active level exactly if the
glyph of the digit selected lights the segment, and the DP pin exactly if that digit is `BUF.dp`. -/
def Obligations.TickDrivesSegmentAndPointPins : Prop :=
  ∀ s : State, ∃ (t : State) (g : Sym), exec .tick s = .next t ∧
    (t.dig.toNat = 0 → g = s.buf.g0) ∧ (t.dig.toNat = 1 → g = s.buf.g1) ∧
    (t.dig.toNat = 2 → g = s.buf.g2) ∧ (t.dig.toNat = 3 → g = s.buf.g3) ∧
    ∀ p : Params,
      (∀ i : Fin 7, (segPin p t i = !p.segActiveLow) ↔ (glyphMask g).getLsbD i.val = true) ∧
      ((dpPin p t = !p.segActiveLow) ↔ s.buf.dp.toNat = t.dig.toNat)

/-- R84, R85, R114 (decisions D16, D17, D29; R114 is derived): one step of R114, from every state without a valid sample
and without a scaled value due to RERANGE, whatever words wait and whoever's turn it is: every step but WRBUF, RESET and a
CAPTURE of a valid count leaves such a state and keeps the buffer; it keeps the range under the policy Hold, and under
StepUp unless it is a RERANGE for which no sample arrived. That a step performs a waiting word or a free turn is the
model's choice (log entries 3 and 4). -/
def Obligations.EachStepKeepsTheFreeze : Prop :=
  ∀ (s t : State) (i : Instr), NoReadingDue s → performs s = some i → step s = .next t →
    i ≠ .reset → (∀ b, i ≠ .wrbuf b) →
    (∀ c, i = .capture c → c.toNat < Config.params.sampleMin ∨ Config.params.sampleMax < c.toNat) →
    NoReadingDue t ∧ t.buf = s.buf ∧
    (Config.params.noSamplePolicy = .hold ∨ (i = .rerange → ∀ rest, s.conv ≠ .noSample rest) → t.range = s.range)
end

