-- ==== Sys2Proof/Laws/Config.lean ====
section
/-! SUPPORT. What is known of the parameters: the constraints of spec/00_scope.md R9, and nothing else. -/

namespace Sys2Proof

/-- Whatever was chosen, the machine's parameters meet the constraints of R9. -/
theorem Params.clamp_legal (p : Params) : p.clamp.Legal where
  one_le_sampleMin := by simp [Params.clamp]
  sampleMin_le_sampleMax := by simp [Params.clamp]; omega
  sampleMax_le := by simp [Params.clamp]
  threshLow_le_threshHigh := by simp [Params.clamp]
  one_le_nRes := by simp [Params.clamp]
  resOfRange_lt r := by simp [Params.clamp]; omega

/-- A legal choice is left as it is: every legal configuration is one the machine may have. -/
theorem Params.clamp_eq_self {p : Params} (h : p.Legal) : p.clamp = p := by
  obtain ⟨h1, h2, h3, h4, h5, h6⟩ := h
  have hmax : max 1 (min p.sampleMax 59999) = p.sampleMax := by omega
  have hmin : max 1 (min p.sampleMin p.sampleMax) = p.sampleMin := by omega
  have hres : (fun r => min (p.resOfRange r) (p.nRes - 1)) = p.resOfRange := by
    funext r; have := h6 r; omega
  have hthr : max p.threshLow p.threshHigh = p.threshHigh := by omega
  have hn : max 1 p.nRes = p.nRes := by omega
  simp only [Params.clamp, hmax, hmin, hthr, hn, hres]

/-- The parameters of the machine are legal (R109). -/
theorem Config.params_legal : Config.params.Legal := Config.choice.clamp_legal

end Sys2Proof
end

