-- ==== Sys2Proof/Laws/Decode.lean ====
section
/-! SUPPORT. The fields of an event word (spec/30_encoding.md R52) and the check of its reserved bits (R54). -/

namespace Sys2Proof

theorem toNat_eventWord (tag : BitVec 4) (operand : BitVec 28) :
    (eventWord tag operand).toNat = tag.toNat * 2 ^ 28 + operand.toNat := by
  simp only [eventWord, BitVec.toNat_append]
  rw [← Nat.shiftLeft_add_eq_or_of_lt operand.isLt, Nat.shiftLeft_eq]

theorem toNat_eventTag (w : EventWord) : (eventTag w).toNat = w.toNat / 2 ^ 28 := by
  have h := w.isLt
  simp only [eventTag, BitVec.extractLsb'_toNat, Nat.shiftRight_eq_div_pow]
  omega

theorem toNat_eventOperand (w : EventWord) : (eventOperand w).toNat = w.toNat % 2 ^ 28 := by
  simp [eventOperand, BitVec.extractLsb'_toNat]

/-- The tag and the operand of a word put together from them. -/
@[simp] theorem eventTag_eventWord (tag : BitVec 4) (operand : BitVec 28) :
    eventTag (eventWord tag operand) = tag := by
  have h := operand.isLt
  apply BitVec.eq_of_toNat_eq
  rw [toNat_eventTag, toNat_eventWord]
  omega

@[simp] theorem eventOperand_eventWord (tag : BitVec 4) (operand : BitVec 28) :
    eventOperand (eventWord tag operand) = operand := by
  have h := operand.isLt
  apply BitVec.eq_of_toNat_eq
  rw [toNat_eventOperand, toNat_eventWord]
  omega

/-- A word is its tag and its operand. -/
@[simp] theorem eventWord_eventTag_eventOperand (w : EventWord) : eventWord (eventTag w) (eventOperand w) = w := by
  apply BitVec.eq_of_toNat_eq
  rw [toNat_eventWord, toNat_eventTag, toNat_eventOperand]
  omega

/-- The reserved-bits check passes exactly when the bits are zero (R54). -/
theorem ifReservedZero_eq_ok {n : Nat} {reserved : BitVec n} {i j : Instr} :
    ifReservedZero reserved i = .ok j ↔ reserved = 0 ∧ i = j := by
  unfold ifReservedZero
  split <;> simp_all

/-- What it refuses with otherwise. -/
theorem ifReservedZero_eq_error {n : Nat} {reserved : BitVec n} {i : Instr} {r : DecodeRefusal} :
    ifReservedZero reserved i = .error r ↔ reserved ≠ 0 ∧ r = .reservedBits := by
  unfold ifReservedZero
  split
  · simp_all
  · simp only [Except.error.injEq, ne_eq, *, not_false_eq_true, true_and]
    exact eq_comm

end Sys2Proof
end

