-- ==== Sys2Proof/Laws/State.lean ====
section
/-! SUPPORT. One lemma per field per update of the state, so that no proof unfolds a record update. -/

namespace Sys2Proof.Machine

variable (s : State)

@[simp] theorem State.setBuf_buf (b : Buffer) : (s.setBuf b).buf = b := rfl
@[simp] theorem State.setBuf_dig (b : Buffer) : (s.setBuf b).dig = s.dig := rfl
@[simp] theorem State.setBuf_seg (b : Buffer) : (s.setBuf b).seg = s.seg := rfl
@[simp] theorem State.setBuf_dpl (b : Buffer) : (s.setBuf b).dpl = s.dpl := rfl
@[simp] theorem State.setBuf_sel (b : Buffer) : (s.setBuf b).sel = s.sel := rfl
@[simp] theorem State.setBuf_range (b : Buffer) : (s.setBuf b).range = s.range := rfl
@[simp] theorem State.setBuf_ph (b : Buffer) : (s.setBuf b).ph = s.ph := rfl
@[simp] theorem State.setBuf_armed (b : Buffer) : (s.setBuf b).armed = s.armed := rfl
@[simp] theorem State.setBuf_sample (b : Buffer) : (s.setBuf b).sample = s.sample := rfl
@[simp] theorem State.setBuf_conv (b : Buffer) : (s.setBuf b).conv = s.conv := rfl
@[simp] theorem State.setBuf_chg (b : Buffer) : (s.setBuf b).chg = s.chg := rfl
@[simp] theorem State.setBuf_answer (b : Buffer) : (s.setBuf b).answer = s.answer := rfl
@[simp] theorem State.setBuf_inputs (b : Buffer) : (s.setBuf b).inputs = s.inputs := rfl
@[simp] theorem State.setBuf_turns (b : Buffer) : (s.setBuf b).turns = s.turns := rfl
@[simp] theorem State.setBuf_draws (b : Buffer) : (s.setBuf b).draws = s.draws := rfl

@[simp] theorem State.setDisplay_buf (d : Digit) (g : BitVec 7) (p : Bool) (e : BitVec 4) : (s.setDisplay d g p e).buf = s.buf := rfl
@[simp] theorem State.setDisplay_dig (d : Digit) (g : BitVec 7) (p : Bool) (e : BitVec 4) : (s.setDisplay d g p e).dig = d := rfl
@[simp] theorem State.setDisplay_seg (d : Digit) (g : BitVec 7) (p : Bool) (e : BitVec 4) : (s.setDisplay d g p e).seg = g := rfl
@[simp] theorem State.setDisplay_dpl (d : Digit) (g : BitVec 7) (p : Bool) (e : BitVec 4) : (s.setDisplay d g p e).dpl = p := rfl
@[simp] theorem State.setDisplay_sel (d : Digit) (g : BitVec 7) (p : Bool) (e : BitVec 4) : (s.setDisplay d g p e).sel = e := rfl
@[simp] theorem State.setDisplay_range (d : Digit) (g : BitVec 7) (p : Bool) (e : BitVec 4) : (s.setDisplay d g p e).range = s.range := rfl
@[simp] theorem State.setDisplay_ph (d : Digit) (g : BitVec 7) (p : Bool) (e : BitVec 4) : (s.setDisplay d g p e).ph = s.ph := rfl
@[simp] theorem State.setDisplay_armed (d : Digit) (g : BitVec 7) (p : Bool) (e : BitVec 4) : (s.setDisplay d g p e).armed = s.armed := rfl
@[simp] theorem State.setDisplay_sample (d : Digit) (g : BitVec 7) (p : Bool) (e : BitVec 4) : (s.setDisplay d g p e).sample = s.sample := rfl
@[simp] theorem State.setDisplay_conv (d : Digit) (g : BitVec 7) (p : Bool) (e : BitVec 4) : (s.setDisplay d g p e).conv = s.conv := rfl
@[simp] theorem State.setDisplay_chg (d : Digit) (g : BitVec 7) (p : Bool) (e : BitVec 4) : (s.setDisplay d g p e).chg = s.chg := rfl
@[simp] theorem State.setDisplay_answer (d : Digit) (g : BitVec 7) (p : Bool) (e : BitVec 4) : (s.setDisplay d g p e).answer = s.answer := rfl
@[simp] theorem State.setDisplay_inputs (d : Digit) (g : BitVec 7) (p : Bool) (e : BitVec 4) : (s.setDisplay d g p e).inputs = s.inputs := rfl
@[simp] theorem State.setDisplay_turns (d : Digit) (g : BitVec 7) (p : Bool) (e : BitVec 4) : (s.setDisplay d g p e).turns = s.turns := rfl
@[simp] theorem State.setDisplay_draws (d : Digit) (g : BitVec 7) (p : Bool) (e : BitVec 4) : (s.setDisplay d g p e).draws = s.draws := rfl

@[simp] theorem State.setRange_buf (r : RangeSetting) : (s.setRange r).buf = s.buf := rfl
@[simp] theorem State.setRange_dig (r : RangeSetting) : (s.setRange r).dig = s.dig := rfl
@[simp] theorem State.setRange_seg (r : RangeSetting) : (s.setRange r).seg = s.seg := rfl
@[simp] theorem State.setRange_dpl (r : RangeSetting) : (s.setRange r).dpl = s.dpl := rfl
@[simp] theorem State.setRange_sel (r : RangeSetting) : (s.setRange r).sel = s.sel := rfl
@[simp] theorem State.setRange_range (r : RangeSetting) : (s.setRange r).range = r := rfl
@[simp] theorem State.setRange_ph (r : RangeSetting) : (s.setRange r).ph = s.ph := rfl
@[simp] theorem State.setRange_armed (r : RangeSetting) : (s.setRange r).armed = s.armed := rfl
@[simp] theorem State.setRange_sample (r : RangeSetting) : (s.setRange r).sample = s.sample := rfl
@[simp] theorem State.setRange_conv (r : RangeSetting) : (s.setRange r).conv = s.conv := rfl
@[simp] theorem State.setRange_chg (r : RangeSetting) : (s.setRange r).chg = s.chg := rfl
@[simp] theorem State.setRange_answer (r : RangeSetting) : (s.setRange r).answer = s.answer := rfl
@[simp] theorem State.setRange_inputs (r : RangeSetting) : (s.setRange r).inputs = s.inputs := rfl
@[simp] theorem State.setRange_turns (r : RangeSetting) : (s.setRange r).turns = s.turns := rfl
@[simp] theorem State.setRange_draws (r : RangeSetting) : (s.setRange r).draws = s.draws := rfl

@[simp] theorem State.setPh_buf (p : Phase) : (s.setPh p).buf = s.buf := rfl
@[simp] theorem State.setPh_dig (p : Phase) : (s.setPh p).dig = s.dig := rfl
@[simp] theorem State.setPh_seg (p : Phase) : (s.setPh p).seg = s.seg := rfl
@[simp] theorem State.setPh_dpl (p : Phase) : (s.setPh p).dpl = s.dpl := rfl
@[simp] theorem State.setPh_sel (p : Phase) : (s.setPh p).sel = s.sel := rfl
@[simp] theorem State.setPh_range (p : Phase) : (s.setPh p).range = s.range := rfl
@[simp] theorem State.setPh_ph (p : Phase) : (s.setPh p).ph = p := rfl
@[simp] theorem State.setPh_armed (p : Phase) : (s.setPh p).armed = s.armed := rfl
@[simp] theorem State.setPh_sample (p : Phase) : (s.setPh p).sample = s.sample := rfl
@[simp] theorem State.setPh_conv (p : Phase) : (s.setPh p).conv = s.conv := rfl
@[simp] theorem State.setPh_chg (p : Phase) : (s.setPh p).chg = s.chg := rfl
@[simp] theorem State.setPh_answer (p : Phase) : (s.setPh p).answer = s.answer := rfl
@[simp] theorem State.setPh_inputs (p : Phase) : (s.setPh p).inputs = s.inputs := rfl
@[simp] theorem State.setPh_turns (p : Phase) : (s.setPh p).turns = s.turns := rfl
@[simp] theorem State.setPh_draws (p : Phase) : (s.setPh p).draws = s.draws := rfl

@[simp] theorem State.setArmed_buf (a : Bool) : (s.setArmed a).buf = s.buf := rfl
@[simp] theorem State.setArmed_dig (a : Bool) : (s.setArmed a).dig = s.dig := rfl
@[simp] theorem State.setArmed_seg (a : Bool) : (s.setArmed a).seg = s.seg := rfl
@[simp] theorem State.setArmed_dpl (a : Bool) : (s.setArmed a).dpl = s.dpl := rfl
@[simp] theorem State.setArmed_sel (a : Bool) : (s.setArmed a).sel = s.sel := rfl
@[simp] theorem State.setArmed_range (a : Bool) : (s.setArmed a).range = s.range := rfl
@[simp] theorem State.setArmed_ph (a : Bool) : (s.setArmed a).ph = s.ph := rfl
@[simp] theorem State.setArmed_armed (a : Bool) : (s.setArmed a).armed = a := rfl
@[simp] theorem State.setArmed_sample (a : Bool) : (s.setArmed a).sample = s.sample := rfl
@[simp] theorem State.setArmed_conv (a : Bool) : (s.setArmed a).conv = s.conv := rfl
@[simp] theorem State.setArmed_chg (a : Bool) : (s.setArmed a).chg = s.chg := rfl
@[simp] theorem State.setArmed_answer (a : Bool) : (s.setArmed a).answer = s.answer := rfl
@[simp] theorem State.setArmed_inputs (a : Bool) : (s.setArmed a).inputs = s.inputs := rfl
@[simp] theorem State.setArmed_turns (a : Bool) : (s.setArmed a).turns = s.turns := rfl
@[simp] theorem State.setArmed_draws (a : Bool) : (s.setArmed a).draws = s.draws := rfl

@[simp] theorem State.setSample_buf (t : Option Count) : (s.setSample t).buf = s.buf := rfl
@[simp] theorem State.setSample_dig (t : Option Count) : (s.setSample t).dig = s.dig := rfl
@[simp] theorem State.setSample_seg (t : Option Count) : (s.setSample t).seg = s.seg := rfl
@[simp] theorem State.setSample_dpl (t : Option Count) : (s.setSample t).dpl = s.dpl := rfl
@[simp] theorem State.setSample_sel (t : Option Count) : (s.setSample t).sel = s.sel := rfl
@[simp] theorem State.setSample_range (t : Option Count) : (s.setSample t).range = s.range := rfl
@[simp] theorem State.setSample_ph (t : Option Count) : (s.setSample t).ph = s.ph := rfl
@[simp] theorem State.setSample_armed (t : Option Count) : (s.setSample t).armed = s.armed := rfl
@[simp] theorem State.setSample_sample (t : Option Count) : (s.setSample t).sample = t := rfl
@[simp] theorem State.setSample_conv (t : Option Count) : (s.setSample t).conv = s.conv := rfl
@[simp] theorem State.setSample_chg (t : Option Count) : (s.setSample t).chg = s.chg := rfl
@[simp] theorem State.setSample_answer (t : Option Count) : (s.setSample t).answer = s.answer := rfl
@[simp] theorem State.setSample_inputs (t : Option Count) : (s.setSample t).inputs = s.inputs := rfl
@[simp] theorem State.setSample_turns (t : Option Count) : (s.setSample t).turns = s.turns := rfl
@[simp] theorem State.setSample_draws (t : Option Count) : (s.setSample t).draws = s.draws := rfl

@[simp] theorem State.setConv_buf (c : Conv) : (s.setConv c).buf = s.buf := rfl
@[simp] theorem State.setConv_dig (c : Conv) : (s.setConv c).dig = s.dig := rfl
@[simp] theorem State.setConv_seg (c : Conv) : (s.setConv c).seg = s.seg := rfl
@[simp] theorem State.setConv_dpl (c : Conv) : (s.setConv c).dpl = s.dpl := rfl
@[simp] theorem State.setConv_sel (c : Conv) : (s.setConv c).sel = s.sel := rfl
@[simp] theorem State.setConv_range (c : Conv) : (s.setConv c).range = s.range := rfl
@[simp] theorem State.setConv_ph (c : Conv) : (s.setConv c).ph = s.ph := rfl
@[simp] theorem State.setConv_armed (c : Conv) : (s.setConv c).armed = s.armed := rfl
@[simp] theorem State.setConv_sample (c : Conv) : (s.setConv c).sample = s.sample := rfl
@[simp] theorem State.setConv_conv (c : Conv) : (s.setConv c).conv = c := rfl
@[simp] theorem State.setConv_chg (c : Conv) : (s.setConv c).chg = s.chg := rfl
@[simp] theorem State.setConv_answer (c : Conv) : (s.setConv c).answer = s.answer := rfl
@[simp] theorem State.setConv_inputs (c : Conv) : (s.setConv c).inputs = s.inputs := rfl
@[simp] theorem State.setConv_turns (c : Conv) : (s.setConv c).turns = s.turns := rfl
@[simp] theorem State.setConv_draws (c : Conv) : (s.setConv c).draws = s.draws := rfl

@[simp] theorem State.setChg_buf (ls : List ChargeLine) : (s.setChg ls).buf = s.buf := rfl
@[simp] theorem State.setChg_dig (ls : List ChargeLine) : (s.setChg ls).dig = s.dig := rfl
@[simp] theorem State.setChg_seg (ls : List ChargeLine) : (s.setChg ls).seg = s.seg := rfl
@[simp] theorem State.setChg_dpl (ls : List ChargeLine) : (s.setChg ls).dpl = s.dpl := rfl
@[simp] theorem State.setChg_sel (ls : List ChargeLine) : (s.setChg ls).sel = s.sel := rfl
@[simp] theorem State.setChg_range (ls : List ChargeLine) : (s.setChg ls).range = s.range := rfl
@[simp] theorem State.setChg_ph (ls : List ChargeLine) : (s.setChg ls).ph = s.ph := rfl
@[simp] theorem State.setChg_armed (ls : List ChargeLine) : (s.setChg ls).armed = s.armed := rfl
@[simp] theorem State.setChg_sample (ls : List ChargeLine) : (s.setChg ls).sample = s.sample := rfl
@[simp] theorem State.setChg_conv (ls : List ChargeLine) : (s.setChg ls).conv = s.conv := rfl
@[simp] theorem State.setChg_chg (ls : List ChargeLine) : (s.setChg ls).chg = ls := rfl
@[simp] theorem State.setChg_answer (ls : List ChargeLine) : (s.setChg ls).answer = s.answer := rfl
@[simp] theorem State.setChg_inputs (ls : List ChargeLine) : (s.setChg ls).inputs = s.inputs := rfl
@[simp] theorem State.setChg_turns (ls : List ChargeLine) : (s.setChg ls).turns = s.turns := rfl
@[simp] theorem State.setChg_draws (ls : List ChargeLine) : (s.setChg ls).draws = s.draws := rfl

@[simp] theorem State.setAnswer_buf (a : Answer) : (s.setAnswer a).buf = s.buf := rfl
@[simp] theorem State.setAnswer_dig (a : Answer) : (s.setAnswer a).dig = s.dig := rfl
@[simp] theorem State.setAnswer_seg (a : Answer) : (s.setAnswer a).seg = s.seg := rfl
@[simp] theorem State.setAnswer_dpl (a : Answer) : (s.setAnswer a).dpl = s.dpl := rfl
@[simp] theorem State.setAnswer_sel (a : Answer) : (s.setAnswer a).sel = s.sel := rfl
@[simp] theorem State.setAnswer_range (a : Answer) : (s.setAnswer a).range = s.range := rfl
@[simp] theorem State.setAnswer_ph (a : Answer) : (s.setAnswer a).ph = s.ph := rfl
@[simp] theorem State.setAnswer_armed (a : Answer) : (s.setAnswer a).armed = s.armed := rfl
@[simp] theorem State.setAnswer_sample (a : Answer) : (s.setAnswer a).sample = s.sample := rfl
@[simp] theorem State.setAnswer_conv (a : Answer) : (s.setAnswer a).conv = s.conv := rfl
@[simp] theorem State.setAnswer_chg (a : Answer) : (s.setAnswer a).chg = s.chg := rfl
@[simp] theorem State.setAnswer_answer (a : Answer) : (s.setAnswer a).answer = a := rfl
@[simp] theorem State.setAnswer_inputs (a : Answer) : (s.setAnswer a).inputs = s.inputs := rfl
@[simp] theorem State.setAnswer_turns (a : Answer) : (s.setAnswer a).turns = s.turns := rfl
@[simp] theorem State.setAnswer_draws (a : Answer) : (s.setAnswer a).draws = s.draws := rfl

@[simp] theorem State.setInputs_buf (ws : List FormatWord) : (s.setInputs ws).buf = s.buf := rfl
@[simp] theorem State.setInputs_dig (ws : List FormatWord) : (s.setInputs ws).dig = s.dig := rfl
@[simp] theorem State.setInputs_seg (ws : List FormatWord) : (s.setInputs ws).seg = s.seg := rfl
@[simp] theorem State.setInputs_dpl (ws : List FormatWord) : (s.setInputs ws).dpl = s.dpl := rfl
@[simp] theorem State.setInputs_sel (ws : List FormatWord) : (s.setInputs ws).sel = s.sel := rfl
@[simp] theorem State.setInputs_range (ws : List FormatWord) : (s.setInputs ws).range = s.range := rfl
@[simp] theorem State.setInputs_ph (ws : List FormatWord) : (s.setInputs ws).ph = s.ph := rfl
@[simp] theorem State.setInputs_armed (ws : List FormatWord) : (s.setInputs ws).armed = s.armed := rfl
@[simp] theorem State.setInputs_sample (ws : List FormatWord) : (s.setInputs ws).sample = s.sample := rfl
@[simp] theorem State.setInputs_conv (ws : List FormatWord) : (s.setInputs ws).conv = s.conv := rfl
@[simp] theorem State.setInputs_chg (ws : List FormatWord) : (s.setInputs ws).chg = s.chg := rfl
@[simp] theorem State.setInputs_answer (ws : List FormatWord) : (s.setInputs ws).answer = s.answer := rfl
@[simp] theorem State.setInputs_inputs (ws : List FormatWord) : (s.setInputs ws).inputs = ws := rfl
@[simp] theorem State.setInputs_turns (ws : List FormatWord) : (s.setInputs ws).turns = s.turns := rfl
@[simp] theorem State.setInputs_draws (ws : List FormatWord) : (s.setInputs ws).draws = s.draws := rfl

@[simp] theorem State.setTurns_buf (n : Nat) : (s.setTurns n).buf = s.buf := rfl
@[simp] theorem State.setTurns_dig (n : Nat) : (s.setTurns n).dig = s.dig := rfl
@[simp] theorem State.setTurns_seg (n : Nat) : (s.setTurns n).seg = s.seg := rfl
@[simp] theorem State.setTurns_dpl (n : Nat) : (s.setTurns n).dpl = s.dpl := rfl
@[simp] theorem State.setTurns_sel (n : Nat) : (s.setTurns n).sel = s.sel := rfl
@[simp] theorem State.setTurns_range (n : Nat) : (s.setTurns n).range = s.range := rfl
@[simp] theorem State.setTurns_ph (n : Nat) : (s.setTurns n).ph = s.ph := rfl
@[simp] theorem State.setTurns_armed (n : Nat) : (s.setTurns n).armed = s.armed := rfl
@[simp] theorem State.setTurns_sample (n : Nat) : (s.setTurns n).sample = s.sample := rfl
@[simp] theorem State.setTurns_conv (n : Nat) : (s.setTurns n).conv = s.conv := rfl
@[simp] theorem State.setTurns_chg (n : Nat) : (s.setTurns n).chg = s.chg := rfl
@[simp] theorem State.setTurns_answer (n : Nat) : (s.setTurns n).answer = s.answer := rfl
@[simp] theorem State.setTurns_inputs (n : Nat) : (s.setTurns n).inputs = s.inputs := rfl
@[simp] theorem State.setTurns_turns (n : Nat) : (s.setTurns n).turns = n := rfl
@[simp] theorem State.setTurns_draws (n : Nat) : (s.setTurns n).draws = s.draws := rfl

@[simp] theorem State.setDraws_buf (n : Nat) : (s.setDraws n).buf = s.buf := rfl
@[simp] theorem State.setDraws_dig (n : Nat) : (s.setDraws n).dig = s.dig := rfl
@[simp] theorem State.setDraws_seg (n : Nat) : (s.setDraws n).seg = s.seg := rfl
@[simp] theorem State.setDraws_dpl (n : Nat) : (s.setDraws n).dpl = s.dpl := rfl
@[simp] theorem State.setDraws_sel (n : Nat) : (s.setDraws n).sel = s.sel := rfl
@[simp] theorem State.setDraws_range (n : Nat) : (s.setDraws n).range = s.range := rfl
@[simp] theorem State.setDraws_ph (n : Nat) : (s.setDraws n).ph = s.ph := rfl
@[simp] theorem State.setDraws_armed (n : Nat) : (s.setDraws n).armed = s.armed := rfl
@[simp] theorem State.setDraws_sample (n : Nat) : (s.setDraws n).sample = s.sample := rfl
@[simp] theorem State.setDraws_conv (n : Nat) : (s.setDraws n).conv = s.conv := rfl
@[simp] theorem State.setDraws_chg (n : Nat) : (s.setDraws n).chg = s.chg := rfl
@[simp] theorem State.setDraws_answer (n : Nat) : (s.setDraws n).answer = s.answer := rfl
@[simp] theorem State.setDraws_inputs (n : Nat) : (s.setDraws n).inputs = s.inputs := rfl
@[simp] theorem State.setDraws_turns (n : Nat) : (s.setDraws n).turns = s.turns := rfl
@[simp] theorem State.setDraws_draws (n : Nat) : (s.setDraws n).draws = n := rfl

@[simp] theorem State.setConvOpen_buf (outcome : BitVec 20 → Conv) : (s.setConvOpen outcome).buf = s.buf := rfl
@[simp] theorem State.setConvOpen_dig (outcome : BitVec 20 → Conv) : (s.setConvOpen outcome).dig = s.dig := rfl
@[simp] theorem State.setConvOpen_seg (outcome : BitVec 20 → Conv) : (s.setConvOpen outcome).seg = s.seg := rfl
@[simp] theorem State.setConvOpen_dpl (outcome : BitVec 20 → Conv) : (s.setConvOpen outcome).dpl = s.dpl := rfl
@[simp] theorem State.setConvOpen_sel (outcome : BitVec 20 → Conv) : (s.setConvOpen outcome).sel = s.sel := rfl
@[simp] theorem State.setConvOpen_range (outcome : BitVec 20 → Conv) : (s.setConvOpen outcome).range = s.range := rfl
@[simp] theorem State.setConvOpen_ph (outcome : BitVec 20 → Conv) : (s.setConvOpen outcome).ph = s.ph := rfl
@[simp] theorem State.setConvOpen_armed (outcome : BitVec 20 → Conv) : (s.setConvOpen outcome).armed = s.armed := rfl
@[simp] theorem State.setConvOpen_sample (outcome : BitVec 20 → Conv) : (s.setConvOpen outcome).sample = s.sample := rfl
@[simp] theorem State.setConvOpen_conv (outcome : BitVec 20 → Conv) : (s.setConvOpen outcome).conv = outcome (Config.convRest s.draws) := rfl
@[simp] theorem State.setConvOpen_chg (outcome : BitVec 20 → Conv) : (s.setConvOpen outcome).chg = s.chg := rfl
@[simp] theorem State.setConvOpen_answer (outcome : BitVec 20 → Conv) : (s.setConvOpen outcome).answer = s.answer := rfl
@[simp] theorem State.setConvOpen_inputs (outcome : BitVec 20 → Conv) : (s.setConvOpen outcome).inputs = s.inputs := rfl
@[simp] theorem State.setConvOpen_turns (outcome : BitVec 20 → Conv) : (s.setConvOpen outcome).turns = s.turns := rfl
@[simp] theorem State.setConvOpen_draws (outcome : BitVec 20 → Conv) : (s.setConvOpen outcome).draws = s.draws + 1 := rfl

end Sys2Proof.Machine
end

