-- ==== Sys2Proof/Laws/Ops.lean ====
section
/-! SUPPORT. One lemma per shared operation that says what it can do, to be cited instead of unfolding it. -/

namespace Sys2Proof.Machine

/-! ### The sequencer's cycle -/

/-- A sequencer operation that answers a next state was in its phase, and that state is its effect and the next
phase. -/
theorem sequencerStep_eq_next {p : Phase} {f : State → State} {s t : State} :
    sequencerStep p f s = .next t ↔ s.ph = p ∧ t = (f s).setPh p.succ := by
  unfold sequencerStep
  split
  · simp_all [eq_comm]
  · simp_all

theorem sequencerStep_of_ph {p : Phase} {f : State → State} {s : State} (h : s.ph = p) :
    sequencerStep p f s = .next ((f s).setPh p.succ) := if_pos h

theorem sequencerStep_of_ne {p : Phase} {f : State → State} {s : State} (h : s.ph ≠ p) :
    sequencerStep p f s = .refused .outOfPhase := if_neg h

/-! ### The display buffer -/

/-- R50: packing is the sum of the fields, each at its place. -/
theorem Buffer.toNat_pack (b : Buffer) :
    b.pack.toNat =
      b.g0.toNat + b.g1.toNat * 2 ^ 5 + b.g2.toNat * 2 ^ 10 + b.g3.toNat * 2 ^ 15 + b.dp.toNat * 2 ^ 20 := by
  have h0 := b.g0.isLt
  have h1 := b.g1.isLt
  have h2 := b.g2.isLt
  have h3 := b.g3.isLt
  have hd := b.dp.isLt
  simp only [Buffer.pack, BitVec.toNat_append]
  rw [← Nat.shiftLeft_add_eq_or_of_lt h0, ← Nat.shiftLeft_add_eq_or_of_lt h1, ← Nat.shiftLeft_add_eq_or_of_lt h2,
    ← Nat.shiftLeft_add_eq_or_of_lt h3]
  simp only [Nat.shiftLeft_eq]
  omega

/-- Unpacking what was packed gives the fields back. -/
@[simp] theorem Buffer.unpack_pack (b : Buffer) : Buffer.unpack b.pack = b := by
  have h0 := b.g0.isLt
  have h1 := b.g1.isLt
  have h2 := b.g2.isLt
  have h3 := b.g3.isLt
  have hd := b.dp.isLt
  have hp := b.toNat_pack
  cases b with
  | mk g0 g1 g2 g3 dp =>
    simp only [Buffer.unpack, Buffer.mk.injEq]
    refine ⟨?_, ?_, ?_, ?_, ?_⟩ <;> apply BitVec.eq_of_toNat_eq <;>
      simp only [BitVec.extractLsb'_toNat, hp, Nat.shiftRight_eq_div_pow] at * <;> omega

/-- Packing what was unpacked gives the word back: every 23-bit value is one buffer (R50). -/
@[simp] theorem Buffer.pack_unpack (w : BufWord) : (Buffer.unpack w).pack = w := by
  have hw := w.isLt
  apply BitVec.eq_of_toNat_eq
  rw [Buffer.toNat_pack]
  simp only [Buffer.unpack, BitVec.extractLsb'_toNat, Nat.shiftRight_eq_div_pow]
  omega

/-- `BufWrite` is one write of the five fields (R34). -/
theorem bufWrite_eq (w : BufWord) (s : State) : bufWrite w s = s.setBuf (Buffer.unpack w) := rfl

/-- The buffer a reading puts up: hundreds, tens, ones and the unit, in that order (R83, R84). -/
theorem unpack_readingWord (r : RangeSetting) (v : Nat) :
    Buffer.unpack (readingWord r v) =
      ⟨digitSym (v / 100 % 10), digitSym (v / 10 % 10), digitSym (v % 10), (rangeRow r).unit, (rangeRow r).dp⟩ :=
  Buffer.unpack_pack ⟨digitSym (v / 100 % 10), digitSym (v / 10 % 10), digitSym (v % 10), (rangeRow r).unit,
    (rangeRow r).dp⟩

/-- A decimal digit's symbol code is the digit (R47). -/
theorem toNat_digitSym {d : Nat} (h : d < 10) : (digitSym d).toNat = d := by
  simp only [digitSym, BitVec.toNat_ofNat]; omega

/-! ### The measurement tables -/

/-- The largest scaled value is 655350 (R10, R81). -/
theorem scale_le (r : RangeSetting) (t : Count) : scale r t ≤ 655350 := by
  have h := t.isLt
  cases r <;> simp only [scale, rangeRow] <;> omega

/-- One step down in the codes (R85). -/
theorem rangeCode_down (r : RangeSetting) : rangeCode (rangeDown r) = max 1 (rangeCode r - 1) := by
  cases r <;> rfl

/-- One step up in the codes (R85). -/
theorem rangeCode_up (r : RangeSetting) : rangeCode (rangeUp r) = min 5 (rangeCode r + 1) := by
  cases r <;> rfl

theorem rangeCode_injective {r q : RangeSetting} (h : rangeCode r = rangeCode q) : r = q := by
  cases r <;> cases q <;> first | rfl | cases h

theorem length_allLow (p : Params) : (allLow p).length = p.nRes := List.length_replicate

theorem allLow_get {p : Params} {k : Nat} (h : k < p.nRes) : (allLow p)[k]? = some .low := by
  simp [allLow, h]

theorem length_driveLine (p : Params) (r : RangeSetting) : (driveLine p r).length = p.nRes := by
  simp [driveLine]

theorem driveLine_get {p : Params} {r : RangeSetting} {k : Nat} (h : k < p.nRes) :
    (driveLine p r)[k]? = some (if k = p.resOfRange r then .high else .rel) := by
  simp [driveLine, h]

/-! ### The encoder and the decimal point -/

/-- The encoder never drives the decimal point (R64). -/
theorem glyphMask_dp (c : Sym) : (glyphMask c)[7] = false := by
  revert c; decide

/-- The decimal point of a digit is lit exactly when the index names that digit (R49, R69). -/
theorem setWidth_eq_iff_dpDigit (d : Digit) (dp : DpIndex) : d.setWidth 3 = dp ↔ dpDigit dp = some d := by
  revert d dp; decide

/-! ### Waiting words -/

theorem fetch_nil {s : State} (h : s.inputs = []) : fetch s = none := by simp [fetch, h]

theorem fetch_cons {s : State} {w : FormatWord} {rest : List FormatWord} (h : s.inputs = w :: rest) :
    fetch s = some (w, s.setInputs rest) := by simp [fetch, h]

end Sys2Proof.Machine
end

