-- ==== Sys2Proof/Laws/Exec.lean ====
section
/-! SUPPORT. What each sequencer operation and CAPTURE can do: if it answers a next state, then in its phase and with
this state. The other instructions answer by computation. -/

namespace Sys2Proof.Machine

variable {s t : State}

theorem exec_discharge_eq_next :
    exec .discharge s = .next t ↔ s.ph = .dis ∧ t = (s.setChg (allLow Config.params)).setPh .chg := by
  simp only [exec, execDischarge, discharge]
  exact sequencerStep_eq_next

theorem exec_charge_eq_next :
    exec .charge s = .next t ↔ s.ph = .chg ∧
      t = (((s.setChg (driveLine Config.params s.range)).setSample none).setArmed true).setPh .wait := by
  simp only [exec, execCharge, charge]
  exact sequencerStep_eq_next

theorem exec_disarm_eq_next : exec .disarm s = .next t ↔ s.ph = .wait ∧ t = (s.setArmed false).setPh .cnv := by
  simp only [exec, execDisarm]
  exact sequencerStep_eq_next

theorem exec_convert_eq_next :
    exec .convert s = .next t ↔
      s.ph = .cnv ∧ t = ((convertSample Config.params s).setSample none).setPh .rng := by
  simp only [exec, execConvert, convert]
  exact sequencerStep_eq_next

theorem exec_rerange_eq_next :
    exec .rerange s = .next t ↔
      s.ph = .rng ∧ t = (s.setRange (nextRange Config.params s.conv s.range)).setPh .dis := by
  simp only [exec, execRerange, rerange]
  exact sequencerStep_eq_next

theorem exec_capture_eq_next {c : Count} :
    exec (.capture c) s = .next t ↔ t = if s.acceptsTrip then s.setSample (some c) else s := by
  show Host.Outcome.next _ = _ ↔ _
  simp only [Host.Outcome.next.injEq, eq_comm]

/-- The three cases of CONVERT (R84). -/
theorem convertSample_cases (p : Params) (s : State) :
    (s.sample = none ∧ convertSample p s = s.setConvOpen .noSample) ∨
    (∃ c, s.sample = some c ∧ validCount p c = false ∧ convertSample p s = s.setConvOpen .rejected) ∨
    (∃ c, s.sample = some c ∧ validCount p c = true ∧
      convertSample p s =
        (bufWrite (readingWord s.range (scale s.range c)) s).setConv (.scaled (scale s.range c))) := by
  cases h : s.sample with
  | none => exact .inl ⟨rfl, by simp [convertSample, h]⟩
  | some c =>
    cases hv : validCount p c
    · exact .inr (.inl ⟨c, rfl, hv, by simp [convertSample, h, hv]⟩)
    · exact .inr (.inr ⟨c, rfl, hv, by simp [convertSample, h, hv]⟩)

/-- CONVERT's effect on the sample leaves every element but the buffer, `CONV` and the free values drawn (R84). -/
theorem convertSample_frame (p : Params) (s : State) :
    convertSample p s =
      { s with buf := (convertSample p s).buf, conv := (convertSample p s).conv, draws := (convertSample p s).draws } := by
  rcases convertSample_cases p s with ⟨-, h⟩ | ⟨c, -, -, h⟩ | ⟨c, -, -, h⟩ <;> rw [h] <;> rfl

end Sys2Proof.Machine
end

