-- ==== Sys2Proof/Laws/PerInstr.lean ====
section
/-! SUPPORT. A law of each instruction as syntax: its word is the one spec/opcode_table.json gives its row. The bits
of `match` and `mask` below are the table's. -/

namespace Sys2Proof

/-- Does a word carry the fixed bits of a row, in the row's format? -/
def FormatWord.fits : FormatWord → (bits mask : FormatWord) → Bool
  | .ev w, .ev bits, .ev mask => w &&& mask == bits
  | .sym w, .sym bits, .sym mask => w &&& mask == bits
  | .dp w, .dp bits, .dp mask => w &&& mask == bits
  | .rng w, .rng bits, .rng mask => w &&& mask == bits
  | _, _, _ => false

/-- The row's `match` and `mask` (spec/opcode_table.json). -/
def tableRow : Instr → FormatWord × FormatWord
  | .enc _ => (.ev 0x00000000, .ev 0xFFFFFFE0)
  | .tick => (.ev 0x10000000, .ev 0xFFFFFFFF)
  | .wrbuf _ => (.ev 0x20000000, .ev 0xFF800000)
  | .discharge => (.ev 0x30000000, .ev 0xFFFFFFFF)
  | .charge => (.ev 0x40000000, .ev 0xFFFFFFFF)
  | .capture _ => (.ev 0x50000000, .ev 0xFFFF0000)
  | .disarm => (.ev 0x60000000, .ev 0xFFFFFFFF)
  | .convert => (.ev 0x70000000, .ev 0xFFFFFFFF)
  | .rerange => (.ev 0x80000000, .ev 0xFFFFFFFF)
  | .reset => (.ev 0xF0000000, .ev 0xFFFFFFFF)
  | .reserved9 _ => (.ev 0x90000000, .ev 0xF0000000)
  | .reservedAB _ _ => (.ev 0xA0000000, .ev 0xE0000000)
  | .reservedCD _ _ => (.ev 0xC0000000, .ev 0xE0000000)
  | .reservedE _ => (.ev 0xE0000000, .ev 0xF0000000)
  | .sym0 => (.sym 0x00, .sym 0x1F)
  | .sym1 => (.sym 0x01, .sym 0x1F)
  | .sym2 => (.sym 0x02, .sym 0x1F)
  | .sym3 => (.sym 0x03, .sym 0x1F)
  | .sym4 => (.sym 0x04, .sym 0x1F)
  | .sym5 => (.sym 0x05, .sym 0x1F)
  | .sym6 => (.sym 0x06, .sym 0x1F)
  | .sym7 => (.sym 0x07, .sym 0x1F)
  | .sym8 => (.sym 0x08, .sym 0x1F)
  | .sym9 => (.sym 0x09, .sym 0x1F)
  | .symA => (.sym 0x0A, .sym 0x1F)
  | .symB => (.sym 0x0B, .sym 0x1F)
  | .symC => (.sym 0x0C, .sym 0x1F)
  | .symD => (.sym 0x0D, .sym 0x1F)
  | .symE => (.sym 0x0E, .sym 0x1F)
  | .symF => (.sym 0x0F, .sym 0x1F)
  | .symP => (.sym 0x10, .sym 0x1F)
  | .symN => (.sym 0x11, .sym 0x1F)
  | .symU => (.sym 0x12, .sym 0x1F)
  | .symDash => (.sym 0x13, .sym 0x1F)
  | .symUnmapped14 _ => (.sym 0x14, .sym 0x1C)
  | .symUnmapped18 _ => (.sym 0x18, .sym 0x18)
  | .dp0 => (.dp 0x0, .dp 0x7)
  | .dp1 => (.dp 0x1, .dp 0x7)
  | .dp2 => (.dp 0x2, .dp 0x7)
  | .dp3 => (.dp 0x3, .dp 0x7)
  | .dpNone => (.dp 0x7, .dp 0x7)
  | .dp45 _ => (.dp 0x4, .dp 0x6)
  | .dp6 => (.dp 0x6, .dp 0x7)
  | .range1 => (.rng 0x1, .rng 0x7)
  | .range2 => (.rng 0x2, .rng 0x7)
  | .range3 => (.rng 0x3, .rng 0x7)
  | .range4 => (.rng 0x4, .rng 0x7)
  | .range5 => (.rng 0x5, .rng 0x7)

/-- Masking an event word masks its tag and its operand apart. -/
theorem eventWord_and (t u : BitVec 4) (x y : BitVec 28) :
    eventWord t x &&& eventWord u y = eventWord (t &&& u) (x &&& y) := BitVec.and_append

/-- Masking the operand field away leaves nothing of an operand whose other bits are zero. -/
theorem low_bits_cleared {n m : Nat} (k : BitVec n) (x : BitVec m) : (0#n ++ x) &&& (k ++ 0#m) = 0#(n + m) :=
  BitVec.and_append.trans (by rw [BitVec.zero_and, BitVec.and_zero, BitVec.zero_append_zero])

namespace Laws.TableRow

/-- The instruction's word has the fixed bits of its row. -/
def Statement (i : Instr) : Prop :=
  i.wellFormed = true → (encode i).fits (tableRow i).1 (tableRow i).2 = true

theorem enc (c : Sym) : Statement (.enc c) := fun _ => by revert c; decide

theorem tick : Statement (.tick) := fun _ => by decide

theorem wrbuf (b : BufWord) : Statement (.wrbuf b) := fun _ => beq_iff_eq.2 (by
  rw [show (0xFF800000 : EventWord) = eventWord 0xF (31#5 ++ 0#23) from rfl]
  rw [eventWord_and, low_bits_cleared]
  rfl)

theorem discharge : Statement (.discharge) := fun _ => by decide

theorem charge : Statement (.charge) := fun _ => by decide

theorem capture (t : Count) : Statement (.capture t) := fun _ => beq_iff_eq.2 (by
  rw [show (0xFFFF0000 : EventWord) = eventWord 0xF (0xFFF#12 ++ 0#16) from rfl]
  rw [eventWord_and, low_bits_cleared]
  rfl)

theorem disarm : Statement (.disarm) := fun _ => by decide

theorem convert : Statement (.convert) := fun _ => by decide

theorem rerange : Statement (.rerange) := fun _ => by decide

theorem reset : Statement (.reset) := fun _ => by decide

theorem reserved9 (operand : BitVec 28) : Statement (.reserved9 operand) := fun _ => beq_iff_eq.2 (by
  rw [show (0xF0000000 : EventWord) = eventWord 0xF 0#28 from rfl]
  simp only [eventWord_and, BitVec.and_zero]
  rfl)

theorem reservedAB (tag : BitVec 4) (operand : BitVec 28) : Statement (.reservedAB tag operand) := fun h => beq_iff_eq.2 (by
  rw [show (0xE0000000 : EventWord) = eventWord 0xE 0#28 from rfl]
  simp only [eventWord_and, BitVec.and_zero]
  simp only [Instr.wellFormed, Bool.or_eq_true, beq_iff_eq] at h
  rcases h with rfl | rfl <;> rfl)

theorem reservedCD (tag : BitVec 4) (operand : BitVec 28) : Statement (.reservedCD tag operand) := fun h => beq_iff_eq.2 (by
  rw [show (0xE0000000 : EventWord) = eventWord 0xE 0#28 from rfl]
  simp only [eventWord_and, BitVec.and_zero]
  simp only [Instr.wellFormed, Bool.or_eq_true, beq_iff_eq] at h
  rcases h with rfl | rfl <;> rfl)

theorem reservedE (operand : BitVec 28) : Statement (.reservedE operand) := fun _ => beq_iff_eq.2 (by
  rw [show (0xF0000000 : EventWord) = eventWord 0xF 0#28 from rfl]
  simp only [eventWord_and, BitVec.and_zero]
  rfl)

theorem sym0 : Statement (.sym0) := fun _ => by decide

theorem sym1 : Statement (.sym1) := fun _ => by decide

theorem sym2 : Statement (.sym2) := fun _ => by decide

theorem sym3 : Statement (.sym3) := fun _ => by decide

theorem sym4 : Statement (.sym4) := fun _ => by decide

theorem sym5 : Statement (.sym5) := fun _ => by decide

theorem sym6 : Statement (.sym6) := fun _ => by decide

theorem sym7 : Statement (.sym7) := fun _ => by decide

theorem sym8 : Statement (.sym8) := fun _ => by decide

theorem sym9 : Statement (.sym9) := fun _ => by decide

theorem symA : Statement (.symA) := fun _ => by decide

theorem symB : Statement (.symB) := fun _ => by decide

theorem symC : Statement (.symC) := fun _ => by decide

theorem symD : Statement (.symD) := fun _ => by decide

theorem symE : Statement (.symE) := fun _ => by decide

theorem symF : Statement (.symF) := fun _ => by decide

theorem symP : Statement (.symP) := fun _ => by decide

theorem symN : Statement (.symN) := fun _ => by decide

theorem symU : Statement (.symU) := fun _ => by decide

theorem symDash : Statement (.symDash) := fun _ => by decide

theorem symUnmapped14 (code : Sym) : Statement (.symUnmapped14 code) := by revert code; unfold Statement; decide

theorem symUnmapped18 (code : Sym) : Statement (.symUnmapped18 code) := by revert code; unfold Statement; decide

theorem dp0 : Statement (.dp0) := fun _ => by decide

theorem dp1 : Statement (.dp1) := fun _ => by decide

theorem dp2 : Statement (.dp2) := fun _ => by decide

theorem dp3 : Statement (.dp3) := fun _ => by decide

theorem dpNone : Statement (.dpNone) := fun _ => by decide

theorem dp45 (index : DpIndex) : Statement (.dp45 index) := by revert index; unfold Statement; decide

theorem dp6 : Statement (.dp6) := fun _ => by decide

theorem range1 : Statement (.range1) := fun _ => by decide

theorem range2 : Statement (.range2) := fun _ => by decide

theorem range3 : Statement (.range3) := fun _ => by decide

theorem range4 : Statement (.range4) := fun _ => by decide

theorem range5 : Statement (.range5) := fun _ => by decide

end Laws.TableRow

end Sys2Proof
end

