-- ==== Sys2Proof/Laws/Step.lean ====
section
/-! SUPPORT. What one step can do, and how a run is put together. -/

namespace Sys2Proof.Machine

/-- A step that answers a next state performed one instruction: the next waiting word's, or that of the agent whose
turn it was. -/
theorem step_eq_next {s t : State} (h : step s = .next t) :
    (∃ w rest i, s.inputs = w :: rest ∧ decode w = .ok i ∧ exec i (s.setInputs rest) = .next t) ∨
    (s.inputs = [] ∧ exec (turnInstr (Config.schedule s.turns) s.ph) (s.setTurns (s.turns + 1)) = .next t) := by
  unfold step at h
  cases hin : s.inputs with
  | nil =>
    rw [fetch_nil hin] at h
    exact .inr ⟨rfl, h⟩
  | cons w rest =>
    rw [fetch_cons hin] at h
    cases hd : decode w with
    | ok i =>
      simp only [hd] at h
      exact .inl ⟨w, rest, i, rfl, hd, h⟩
    | error r => simp [hd] at h

/-- A step that answers a next state performed the instruction `performs` names, in the state with its word or its turn
taken. -/
theorem step_eq_next_of_performs {s t : State} {i : Instr} (hi : performs s = some i) (h : step s = .next t) :
    ∃ ws n, exec i ((s.setInputs ws).setTurns n) = .next t := by
  rcases step_eq_next h with ⟨w, rest, j, hw, hd, he⟩ | ⟨hn, he⟩
  · simp only [performs, fetch_cons hw, hd, Except.toOption, Option.some.injEq] at hi
    exact ⟨rest, s.turns, hi ▸ he⟩
  · simp only [performs, fetch_nil hn, freeTurn, Option.some.injEq] at hi
    exact ⟨s.inputs, s.turns + 1, hi ▸ he⟩

/-- No operation writes the words that wait or the turns drawn: only `step` does (log entries 3 and 4). -/
theorem exec_keeps_inputs {i : Instr} {s t : State} (h : exec i s = .next t) :
    t.inputs = s.inputs ∧ t.turns = s.turns := by
  cases i with
  | discharge => obtain ⟨-, rfl⟩ := exec_discharge_eq_next.1 h; exact ⟨rfl, rfl⟩
  | charge => obtain ⟨-, rfl⟩ := exec_charge_eq_next.1 h; exact ⟨rfl, rfl⟩
  | disarm => obtain ⟨-, rfl⟩ := exec_disarm_eq_next.1 h; exact ⟨rfl, rfl⟩
  | rerange => obtain ⟨-, rfl⟩ := exec_rerange_eq_next.1 h; exact ⟨rfl, rfl⟩
  | convert =>
    obtain ⟨-, rfl⟩ := exec_convert_eq_next.1 h
    rw [convertSample_frame]
    exact ⟨rfl, rfl⟩
  | capture c =>
    rw [exec_capture_eq_next.1 h]
    split <;> exact ⟨rfl, rfl⟩
  | reserved9 | reservedAB | reservedCD | reservedE => cases h
  | _ =>
    cases h
    exact ⟨rfl, rfl⟩

/-- A run of a list is the run of its first part and then of the rest. -/
theorem runInstrs_append {l₁ l₂ : List Instr} {s t : State} :
    runInstrs (l₁ ++ l₂) s = .next t ↔ ∃ u, runInstrs l₁ s = .next u ∧ runInstrs l₂ u = .next t := by
  induction l₁ generalizing s with
  | nil => simp [runInstrs]
  | cons i l ih =>
    simp only [List.cons_append, runInstrs]
    cases h : exec i s <;> simp [ih]

/-- The first operation of a run that answers a next state answered one. -/
theorem runInstrs_cons {i : Instr} {l : List Instr} {s t : State} :
    runInstrs (i :: l) s = .next t ↔ ∃ u, exec i s = .next u ∧ runInstrs l u = .next t := by
  simp only [runInstrs]
  cases h : exec i s <;> simp

theorem runTurns_append {l₁ l₂ : List Turn} {s t : State} :
    runTurns (l₁ ++ l₂) s = .next t ↔ ∃ u, runTurns l₁ s = .next u ∧ runTurns l₂ u = .next t := by
  induction l₁ generalizing s with
  | nil => simp [runTurns]
  | cons i l ih =>
    simp only [List.cons_append, runTurns]
    cases h : exec (turnInstr i s.ph) s <;> simp [ih]

/-- A property that every operation of a run keeps holds at its end. -/
theorem runInstrs_keeps {P : State → Prop} {l : List Instr}
    (keep : ∀ i ∈ l, ∀ s t, exec i s = .next t → P s → P t) {s t : State} (h : runInstrs l s = .next t) (hs : P s) :
    P t := by
  induction l generalizing s with
  | nil => simp only [runInstrs, Host.Outcome.next.injEq] at h; exact h ▸ hs
  | cons i l ih =>
    obtain ⟨u, hu, ht⟩ := runInstrs_cons.1 h
    exact ih (fun j hj => keep j (List.mem_cons_of_mem _ hj)) ht (keep i List.mem_cons_self _ _ hu hs)

end Sys2Proof.Machine
end

