-- ==== Sys2Proof/Tests/Slice0.lean ====
section
/-! SUPPORT. The model's own tests: words written out from spec/30_encoding.md, vectors of spec/95_test_vectors.md, the
ill-formed terms each check of WellFormed refuses, and for every statement with hypotheses a state and operands that
meet them all. -/

open Sys2Proof Sys2Proof.Machine

namespace Sys2Proof.Tests

/-! ### WellFormed refuses an ill-formed term for each check -/

theorem test_reservedAB_refuses_other_tag : (Instr.reservedAB 0x9 0).wellFormed = false := by decide
theorem test_reservedCD_refuses_other_tag : (Instr.reservedCD 0xE 0).wellFormed = false := by decide
theorem test_symUnmapped14_refuses_mapped_code : (Instr.symUnmapped14 0x13).wellFormed = false := by decide
theorem test_symUnmapped14_refuses_code_above : (Instr.symUnmapped14 0x18).wellFormed = false := by decide
theorem test_symUnmapped18_refuses_code_below : (Instr.symUnmapped18 0x17).wellFormed = false := by decide
theorem test_dp45_refuses_other_index : (Instr.dp45 6).wellFormed = false := by decide

/-! ### Every constructor's word, written out from R47, R49, R51, R52 -/

/-- Event words with their instruction (R52's table; the operands of DW1, DW6 and DW10). -/
def eventRows : List (EventWord × Instr) := [
    (0b0000_00000000000000000000000_10011, .enc 0x13),
    (0b0001_0000000000000000000000000000, .tick),
    (0b0010_00000_001_10001_00011_00010_00001, .wrbuf 0x188C41),
    (0b0011_0000000000000000000000000000, .discharge),
    (0b0100_0000000000000000000000000000, .charge),
    (0b0101_000000000000_0000000111000010, .capture 450),
    (0b0110_0000000000000000000000000000, .disarm),
    (0b0111_0000000000000000000000000000, .convert),
    (0b1000_0000000000000000000000000000, .rerange),
    (0b1111_0000000000000000000000000000, .reset),
    (0b1001_0000000000000000000000000001, .reserved9 1),
    (0b1010_0000000000000000000000000010, .reservedAB 0xA 2),
    (0b1011_0000000000000000000000000000, .reservedAB 0xB 0),
    (0b1100_0000000000000000000000000000, .reservedCD 0xC 0),
    (0b1101_1000000000000000000000000000, .reservedCD 0xD 0x8000000),
    (0b1110_0000000000000000000000000000, .reservedE 0)]

/-- Symbol codes with their row (R47's table). -/
def symRows : List (Sym × Instr) := [
    (0b00000, .sym0), (0b00001, .sym1), (0b00010, .sym2), (0b00011, .sym3), (0b00100, .sym4),
    (0b00101, .sym5), (0b00110, .sym6), (0b00111, .sym7), (0b01000, .sym8), (0b01001, .sym9),
    (0b01010, .symA), (0b01011, .symB), (0b01100, .symC), (0b01101, .symD), (0b01110, .symE),
    (0b01111, .symF), (0b10000, .symP), (0b10001, .symN), (0b10010, .symU), (0b10011, .symDash),
    (0b10100, .symUnmapped14 0x14), (0b10111, .symUnmapped14 0x17), (0b11000, .symUnmapped18 0x18), (0b11111, .symUnmapped18 0x1F)]

/-- Decimal-point indices with their row (R49). -/
def dpRows : List (DpIndex × Instr) := [
    (0b000, .dp0), (0b001, .dp1), (0b010, .dp2), (0b011, .dp3), (0b100, .dp45 4), (0b101, .dp45 5), (0b110, .dp6),
    (0b111, .dpNone)]

/-- Range codes with their row (R51). -/
def rngRows : List (BitVec 3 × Instr) := [
    (0b001, .range1), (0b010, .range2), (0b011, .range3), (0b100, .range4), (0b101, .range5)]

theorem test_event_words_decode : eventRows.all (fun r => decide (decode (.ev r.1) = .ok r.2)) = true := by decide
theorem test_event_words_encode : eventRows.all (fun r => decide (encode r.2 = .ev r.1)) = true := by decide
theorem test_sym_words_decode : symRows.all (fun r => decide (decode (.sym r.1) = .ok r.2)) = true := by decide
theorem test_sym_words_encode : symRows.all (fun r => decide (encode r.2 = .sym r.1)) = true := by decide
theorem test_dp_words_decode : dpRows.all (fun r => decide (decode (.dp r.1) = .ok r.2)) = true := by decide
theorem test_rng_words_decode : rngRows.all (fun r => decide (decode (.rng r.1) = .ok r.2)) = true := by decide

/-- Vectors DW3, DW5, DW7, DW8, DW12, DW16, DW21, DW22: each has a nonzero reserved bit. -/
theorem test_reserved_bits_refused :
    ([0x00000020, 0x10000001, 0x20800000, 0x3000000F, 0x50010000, 0x80000001, 0xF0000001, 0xFFFFFFFF] :
      List EventWord).all (fun w => decide (decode (.ev w) = .error .reservedBits)) = true := by decide

/-- R51: the codes 0, 6 and 7 are not legal. -/
theorem test_illegal_range_codes :
    ([0, 6, 7] : List (BitVec 3)).all (fun w => decide (decode (.rng w) = .error .illegalRangeCode)) = true := by decide

/-- The opcode table's numbering: a 32-bit row, an 8-bit row (log entry 7), and a refused word. -/
theorem test_table_words :
    decodeTableWord 32 0x500001C2 = some (.capture 450) ∧ decodeTableWord 8 0x13 = some .symDash ∧
    decodeTableWord 32 0x20 = none := by decide

/-- R58's example lines; the words are vectors W1 and program P2's. -/
theorem test_assemble_wrbuf : assembleLine "wrbuf '1', '2', '3', 'n', 1 ; W1" = some [.ev 0x20188C41] := by decide
theorem test_assemble_cycle :
    assembleLine "cycle 450" =
      some [.ev 0x30000000, .ev 0x40000000, .ev 0x500001C2, .ev 0x60000000, .ev 0x70000000, .ev 0x80000000] := by decide

/-! ### One step on a small state -/

/-- The example configuration EX of spec/95_test_vectors.md. -/
def ex : Params where
  sampleMin := 10
  sampleMax := 50000
  threshLow := 150
  threshHigh := 999
  noSamplePolicy := .hold
  nRes := 5
  resOfRange := fun r => rangeCode r - 1
  segActiveLow := false
  selActiveLow := false
  tRefresh := 0
  tCharge := 0
  tDischarge := 0

/-- EX is legal, so it is one of the configurations the machine may have. -/
theorem test_ex_is_a_configuration : ex.clamp = ex :=
  Params.clamp_eq_self
    ⟨by decide, by decide, by decide, by decide, by decide, fun r => by cases r <;> decide⟩

/-- The reset state under EX, in a given phase, with a given range and sample. -/
def at_ (ph : Phase) (r : RangeSetting) (t : Option Count) : State :=
  { State.resetWith ex with ph := ph, range := r, sample := t }

/-- A field of the next state, if there is one. -/
def after {α : Type} (r : Result) (f : State → α) : Option α :=
  match r with
  | .next s => some (f s)
  | .fault _ => none
  | .refused _ => none

/-- The lit segments of the 20 glyphs, from the column of R61's table (0 is segment a). -/
theorem test_glyph_lit_segments :
    (([
    [0, 1, 2, 3, 4, 5], [1, 2], [0, 1, 3, 4, 6], [0, 1, 2, 3, 6], [1, 2, 5, 6],
    [0, 2, 3, 5, 6], [0, 2, 3, 4, 5, 6], [0, 1, 2], [0, 1, 2, 3, 4, 5, 6], [0, 1, 2, 3, 5, 6],
    [0, 1, 2, 4, 5, 6], [2, 3, 4, 5, 6], [0, 3, 4, 5], [1, 2, 3, 4, 6], [0, 3, 4, 5, 6],
    [0, 4, 5, 6], [0, 1, 4, 5, 6], [2, 4, 6], [2, 3, 4], [6]] : List (List Nat)).mapIdx
      fun c segments => (List.range 8).all fun k => (glyphMask (BitVec.ofNat 5 c)).getLsbD k == segments.contains k)
    = List.replicate 20 true := by decide

/-- Vector E21 as an instruction: an unmapped code answers the mask of '-'. -/
theorem test_enc_unmapped :
    after (exec (.enc 0x14) (at_ .dis .r3 none)) (fun s => s.answer) = some (.mask 0x40) := by decide
theorem test_sym5 : after (exec .sym5 (at_ .dis .r3 none)) (fun s => s.answer) = some (.mask 0x6D) := by decide
theorem test_dp3 : after (exec .dp3 (at_ .dis .r3 none)) (fun s => s.answer) = some (.digit (some 3)) := by decide

/-- Vector T2: the decimal point is lit on its digit. -/
theorem test_tick_lights_its_point :
    after (exec .tick { at_ .dis .r3 none with buf := ⟨1, 2, 3, 0x11, 1⟩, dig := 0 })
      (fun s => (s.dig, s.sel, s.seg, s.dpl)) = some (1, 0b0010, 0x5B, true) := by decide
/-- Vector T8: the wrap, and an unmapped code shows '-'. -/
theorem test_tick_wraps :
    after (exec .tick { at_ .dis .r3 none with buf := ⟨0x14, 0x1F, 0xA, 0x10, 3⟩, dig := 3 })
      (fun s => (s.dig, s.sel, s.seg, s.dpl)) = some (0, 0b0001, 0x40, false) := by decide

/-- Vector W4: 'c', 'a', 'f', 'e', #5. -/
theorem test_wrbuf_fields :
    after (exec (.wrbuf 0x573D4C) (at_ .dis .r3 none)) (fun s => s.buf) = some ⟨0xC, 0xA, 0xF, 0xE, 5⟩ := by decide

/-- Vector Q1. -/
theorem test_discharge :
    after (discharge ex (at_ .dis .r3 none)) (fun s => (s.chg, s.ph)) = some (List.replicate 5 .low, .chg) := by decide
/-- Vector Q2. -/
theorem test_charge :
    after (charge ex (at_ .chg .r3 none)) (fun s => (s.chg, s.armed, s.ph)) =
      some ([.rel, .rel, .high, .rel, .rel], true, .wait) := by decide
/-- Vectors K2 and K3: a second trip and a trip while disarmed are ignored. -/
theorem test_capture_second_trip :
    after (exec (.capture 999) { at_ .wait .r3 (some 450) with armed := true }) (fun s => s.sample) = some (some 450) := by
  decide
theorem test_capture_disarmed :
    after (exec (.capture 450) (at_ .cnv .r3 none)) (fun s => s.sample) = some none := by decide
/-- Vector Q5. -/
theorem test_disarm :
    after (exec .disarm { at_ .wait .r3 none with armed := true }) (fun s => (s.armed, s.sample, s.ph)) =
      some (false, none, .cnv) := by decide
/-- Vector V2: a value of 1000 or more shows its last three digits. -/
theorem test_convert_modulo_1000 :
    after (convert ex (at_ .cnv .r1 (some 123))) (fun s => (s.conv, s.buf.pack)) = some (.scaled 1230, 0x180062) := by decide
/-- Vector V7, the source's example X1. -/
theorem test_convert_source_example :
    after (convert ex (at_ .cnv .r3 (some 450))) (fun s => (s.conv, s.buf.pack, s.sample)) =
      some (.scaled 45, 0x789480, none) := by decide
/-- Vector RR6: one below the low threshold. -/
theorem test_rerange_below_low :
    after (rerange ex { at_ .rng .r3 none with conv := .scaled 149 }) (fun s => (s.range, s.ph)) = some (.r2, .dis) := by
  decide
/-- Vector RR11 under StepUp. -/
theorem test_rerange_no_sample_steps_up :
    after (rerange { ex with noSamplePolicy := .stepUp } { at_ .rng .r3 none with conv := .noSample 0 }) (fun s => s.range) =
      some .r4 := by decide
/-- Vector Q6: out of phase. -/
theorem test_charge_out_of_phase : exec .charge State.reset = .refused .outOfPhase := by rfl
/-- R31: `CONV` is tag 1 (`Rejected`) with value 0 after reset. -/
theorem test_reset_conv :
    after (exec .reset (at_ .rng .r3 none)) (fun s => (s.conv.tag, s.conv.value)) = some (1, 0) := by decide
/-- Vector S2, on the elements that do not hang on N_RES. -/
theorem test_reset_mid_cycle :
    after (exec .reset (at_ .cnv .r5 (some 450))) (fun s => (s.buf.pack, s.range, s.ph, s.sample, s.sel)) =
      some (0x79CE73, .r3, .dis, none, 0) := by decide
/-- The first step of a machine with a word placed performs it. -/
theorem test_step_performs_placed_word :
    after (step (State.reset.withFetchWord 32 0x10000000)) (fun s => (s.dig, s.sel, s.seg, s.inputs)) =
      some (0, 1, 0x40, []) := by decide

/-! ### For every statement with hypotheses, a state and operands that meet them all -/

/-- The smallest and the largest valid count, whatever the parameters are. -/
def smallest : Count := BitVec.ofNat 16 Config.params.sampleMin
def largest : Count := BitVec.ofNat 16 Config.params.sampleMax

theorem toNat_smallest : smallest.toNat = Config.params.sampleMin := by
  have h := Config.params_legal
  have h1 := h.sampleMin_le_sampleMax
  have h2 := h.sampleMax_le
  simp only [smallest, BitVec.toNat_ofNat]; omega

theorem toNat_largest : largest.toNat = Config.params.sampleMax := by
  have h := Config.params_legal.sampleMax_le
  simp only [largest, BitVec.toNat_ofNat]; omega

/-- The machine after reset, in a given phase, with a given range, sample and words waiting. -/
def machineAt (ph : Phase) (r : RangeSetting) (t : Option Count) (ws : List FormatWord) : State :=
  { State.reset with ph := ph, range := r, sample := t, inputs := ws }

/-- A sequence that begins with a TICK, alternating with the sequencer: fair, and without RESET. -/
def alternating (n : Nat) : Turn := if n % 2 = 0 then .tick else .sequencer

theorem witness_DecodeOfEncodeIsIdentity :
    (Instr.reservedAB 0xB 0xFFFFFFF).wellFormed = true ∧ (Instr.symUnmapped14 0x17).wellFormed = true ∧
    (Instr.dp45 4).wellFormed = true ∧ (Instr.wrbuf 0x7FFFFF).wellFormed = true := by decide

theorem witness_EncodeOfDecodeIsIdentity :
    decode (.ev 0x5000FFFF) = .ok (.capture 65535) ∧ decode (.rng 5) = .ok .range5 := by decide

/-- One word for each clause: the two ends of the reserved tags, and every defined tag, at its last value of the tag. -/
theorem witness_EventWordDecodesByTagAndOperand :
    (List.range 16).all (fun t => (BitVec.ofNat 32 (t * 2 ^ 28 + (2 ^ 28 - 1))).toNat / 2 ^ 28 == t) = true := by decide

theorem witness_StepPerformsDecodedWord :
    (machineAt .dis .r3 none [.ev 0x10000000]).inputs = .ev 0x10000000 :: [] ∧ decode (.ev 0x10000000) = .ok .tick := by
  decide

theorem witness_StepRefusesUndecodableWord :
    (machineAt .dis .r3 none [.ev 0x20]).inputs = .ev 0x20 :: [] ∧ decode (.ev 0x20) = .error .reservedBits ∧
    (machineAt .dis .r3 none [.rng 7]).inputs = .rng 7 :: [] ∧
    ∀ w ∈ ([0, 6, 7] : List (BitVec 3)), w.toNat = 0 ∨ w.toNat = 6 ∨ w.toNat = 7 := by decide

theorem witness_StepTakesFreeTurn : State.reset.inputs = [] := rfl

theorem witness_MappedGlyphsAreOneToOne :
    (0x13#5).toNat ≤ 0x13 ∧ glyphMask 0x13 = glyphMask 0x13 ∧ 0x14 ≤ (0x14#5).toNat := by decide

theorem witness_SymbolRowsReturnTheirMask :
    0x14 ≤ (0x14#5).toNat ∧ (0x17#5).toNat ≤ 0x17 ∧ 0x18 ≤ (0x18#5).toNat ∧ 0x18 ≤ (0x1F#5).toNat := by decide

theorem witness_DecimalPointRowsNameTheirDigit : (4#3).toNat = 4 ∧ (5#3).toNat = 5 := by decide

theorem witness_DecimalPointLitIffIndexIsDigit :
    4 ≤ State.reset.buf.dp.toNat ∧ 4 ≤ (4#3).toNat ∧ (onehot4 0)[(0 : Fin 4)] = true := by decide

theorem witness_DischargeDrivesEveryLineLow : State.reset.ph = .dis ∧ 0 < Config.params.nRes :=
  ⟨rfl, Config.params_legal.one_le_nRes⟩

theorem witness_ChargeDrivesLineOfRange : (machineAt .chg .r1 none []).ph = .chg ∧ 0 < Config.params.nRes :=
  ⟨rfl, Config.params_legal.one_le_nRes⟩

theorem witness_CaptureRecordsOnlyFirstArmedTrip :
    ({ machineAt .wait .r3 none [] with armed := true }.armed = true ∧
      { machineAt .wait .r3 none [] with armed := true }.sample = none) ∧
    State.reset.armed = false ∧ (machineAt .wait .r3 (some 450) []).sample ≠ none := by decide

theorem witness_DisarmClosesWindow : (machineAt .wait .r3 none []).ph = .wait := rfl

theorem witness_ConvertWithoutReading :
    ((machineAt .cnv .r3 none []).ph = .cnv ∧ (machineAt .cnv .r3 none []).sample = none) ∧
    ((machineAt .cnv .r3 (some 0) []).ph = .cnv ∧ (machineAt .cnv .r3 (some 0) []).sample = some 0 ∧
      (0#16).toNat < Config.params.sampleMin) ∧
    (machineAt .cnv .r3 (some 60000) []).sample = some 60000 ∧ Config.params.sampleMax < (60000#16).toNat :=
  ⟨⟨rfl, rfl⟩, ⟨rfl, rfl, Config.params_legal.one_le_sampleMin⟩, rfl,
    Nat.lt_of_le_of_lt Config.params_legal.sampleMax_le (by decide)⟩

/-- Both ends of the window, at the two extreme ranges. -/
theorem witness_ConvertShowsReading :
    ((machineAt .cnv .r1 (some smallest) []).ph = .cnv ∧
      (machineAt .cnv .r1 (some smallest) []).sample = some smallest ∧
      Config.params.sampleMin ≤ smallest.toNat ∧ smallest.toNat ≤ Config.params.sampleMax) ∧
    (machineAt .cnv .r5 (some largest) []).ph = .cnv ∧
      (machineAt .cnv .r5 (some largest) []).sample = some largest ∧
      Config.params.sampleMin ≤ largest.toNat ∧ largest.toNat ≤ Config.params.sampleMax := by
  rw [toNat_smallest, toNat_largest]
  exact ⟨⟨rfl, rfl, Nat.le_refl _, Config.params_legal.sampleMin_le_sampleMax⟩, rfl, rfl,
    Config.params_legal.sampleMin_le_sampleMax, Nat.le_refl _⟩

theorem reading_at (r : RangeSetting) :
    ∃ t, exec .convert (machineAt .cnv r (some smallest) []) = .next t ∧ t.conv = .scaled (scale r smallest) := by
  refine ⟨_, exec_convert_eq_next.2 ⟨rfl, rfl⟩, ?_⟩
  have hv : validCount Config.params smallest = true := by
    simp [validCount, toNat_smallest, Config.params_legal.sampleMin_le_sampleMax]
  simp [convertSample, machineAt, hv]

/-- A reading at each range. -/
theorem witness_ReadingHasUnitAndPointOfRange :
    ∀ r : RangeSetting, ∃ s t v, exec .convert s = .next t ∧ t.conv = .scaled v ∧ s.range = r := fun r =>
  have ⟨t, h, hc⟩ := reading_at r
  ⟨_, t, _, h, hc, rfl⟩

theorem witness_ReadingShowsValueModulo1000 : ∃ s t v, exec .convert s = .next t ∧ t.conv = .scaled v :=
  have ⟨t, h, hc⟩ := reading_at .r1
  ⟨_, t, _, h, hc⟩

theorem witness_CountsZeroAnd60000AreRejected :
    (machineAt .cnv .r3 (some 0) []).ph = .cnv ∧ (machineAt .cnv .r3 (some 0) []).sample = some 0 ∧
    (machineAt .cnv .r3 (some 60000) []).sample = some 60000 := ⟨rfl, rfl, rfl⟩

theorem witness_RerangeStepsByThresholds : (machineAt .rng .r1 none []).ph = .rng := rfl

theorem witness_SequencerOperationsFollowTheCycle :
    (∀ ph : Phase, (machineAt ph .r3 none []).ph = ph) ∧
    ∀ ph : Phase, (machineAt ph.succ .r3 none []).ph ≠ ph := ⟨fun _ => rfl, fun ph => by cases ph <;> decide⟩

theorem witness_OnlyTickAndResetDriveDisplay :
    (∃ t, exec (.wrbuf 0x188C41) State.reset = .next t) ∧ Instr.wrbuf 0x188C41 ≠ .tick ∧
      Instr.wrbuf 0x188C41 ≠ .reset := ⟨⟨_, rfl⟩, by decide, by decide⟩

theorem witness_OnlyWritersChangeBuffer :
    (∃ t, exec .tick State.reset = .next t) ∧ (∀ b, Instr.tick ≠ .wrbuf b) ∧ Instr.tick ≠ .convert ∧
      Instr.tick ≠ .reset := ⟨⟨_, rfl⟩, nofun, nofun, nofun⟩

theorem witness_RangeMovesByAtMostOneInRerange :
    (∃ t, exec .rerange (machineAt .rng .r5 none []) = .next t) ∧ Instr.rerange ≠ .reset ∧
    (∃ t, exec .discharge State.reset = .next t) ∧ Instr.discharge ≠ .reset ∧ Instr.discharge ≠ .rerange :=
  ⟨⟨_, rfl⟩, nofun, ⟨_, rfl⟩, nofun, nofun⟩

theorem witness_TickCommutesWithNonWriters :
    writesBuffer .rerange = false ∧ writesBuffer (.capture 450) = false ∧ writesBuffer .discharge = false := by decide

theorem inv_reset : Inv (machineAt .dis .r3 none [.ev 0x30000000]) where
  select := .inl rfl
  conv := nofun
  armed := ⟨nofun, nofun⟩
  sample := fun h => absurd rfl h
  lines := ⟨List.length_replicate, nofun, by rintro (h | h | h) <;> cases h⟩

theorem witness_StepKeepsInvariant :
    Inv (machineAt .dis .r3 none [.ev 0x30000000]) ∧
    ∃ t, step (machineAt .dis .r3 none [.ev 0x30000000]) = .next t := ⟨inv_reset, _, rfl⟩

theorem witness_KthTickSelectsDigitKMinusOneMod4 :
    Instr.reset ∉ [Instr.tick, .discharge, .tick] ∧
    ∃ t, runInstrs (.reset :: [.tick, .discharge, .tick] ++ [.tick]) (machineAt .cnv .r5 none []) = .next t :=
  ⟨by decide, _, rfl⟩

/-- One run for each outcome: no write, a WRBUF, a RESET, and a CONVERT with a reading. -/
theorem witness_BufferIsWholeFromOneWrite :
    (∃ t, runInstrs [.tick, .discharge] State.reset = .next t) ∧
    (∃ t, runInstrs [.tick, .wrbuf 0x188C41, .tick] State.reset = .next t) ∧
    (∃ t, runInstrs [.wrbuf 0x188C41, .reset, .tick] State.reset = .next t) ∧
    ∃ t, runInstrs [.convert] (machineAt .cnv .r1 (some smallest) []) = .next t := ⟨⟨_, rfl⟩, ⟨_, rfl⟩, ⟨_, rfl⟩, _, rfl⟩

theorem witness_FirstSampleOfWindowIsKept :
    (machineAt .wait .r3 (some 450) []).sample = some 450 ∧ Instr.charge ∉ [Instr.capture 999, .disarm] ∧
    Instr.convert ∉ [Instr.capture 999, .disarm] ∧ Instr.reset ∉ [Instr.capture 999, .disarm] ∧
    ∃ t, runInstrs [.capture 999, .disarm] (machineAt .wait .r3 (some 450) []) = .next t :=
  ⟨rfl, by decide, by decide, by decide, _, rfl⟩

theorem witness_MeasurementCycleShowsReading :
    State.reset.ph = .dis ∧ Config.params.sampleMin ≤ smallest.toNat ∧ smallest.toNat ≤ Config.params.sampleMax := by
  rw [toNat_smallest]
  exact ⟨rfl, Nat.le_refl _, Config.params_legal.sampleMin_le_sampleMax⟩

theorem witness_CycleWithoutTripFollowsPolicy : State.reset.ph = .dis := rfl

/-- A whole cycle with the count 0, which is valid under no parameters. -/
def zeroCycle : List Instr := [.discharge, .charge, .capture 0, .disarm, .convert, .rerange]

/-- What the sample is before the one CONVERT of that cycle, if the machine begins at its start. -/
theorem zeroCycle_sample {l₁ l₂ : List Instr} {s u : State} (hs : s.ph = .dis) (h : zeroCycle = l₁ ++ .convert :: l₂)
    (hu : runInstrs l₁ s = .next u) : u.sample = some 0 := by
  have hl : l₁ = [.discharge, .charge, .capture 0, .disarm] := by
    rcases l₁ with _ | ⟨a, _ | ⟨b, _ | ⟨d, _ | ⟨e, _ | ⟨f, _ | ⟨g, l⟩⟩⟩⟩⟩⟩ <;> simp_all [zeroCycle]
  subst hl
  have h1 := exec_discharge_eq_next.2 ⟨hs, rfl⟩
  simp only [runInstrs, h1] at hu
  cases hu
  rfl

theorem zero_is_invalid : (0#16).toNat < Config.params.sampleMin := Config.params_legal.one_le_sampleMin

/-- A window in which a count comes; and a state with a rejected sample in its window. -/
theorem witness_RejectedCountsFreezeDisplayAndRange :
    (∃ t, runInstrs zeroCycle State.reset = .next t) ∧ State.reset.sample = none ∧
    (State.reset.ph = .rng → ∀ v, State.reset.conv ≠ .scaled v) ∧ Instr.reset ∉ zeroCycle ∧
    (∀ b, Instr.wrbuf b ∉ zeroCycle) ∧
    (∀ c, Instr.capture c ∈ zeroCycle → c.toNat < Config.params.sampleMin ∨ Config.params.sampleMax < c.toNat) ∧
    (State.reset.ph = .rng → ∀ rest, State.reset.conv ≠ .noSample rest) ∧ EverySampleArrives zeroCycle State.reset ∧
    (machineAt .cnv .r3 (some 0) []).sample = some 0 := by
  refine ⟨⟨_, rfl⟩, rfl, nofun, by decide, by simp [zeroCycle], ?_, nofun, ?_, rfl⟩
  · intro c hc
    have hc : c = 0 := by simpa [zeroCycle] using hc
    exact hc ▸ .inl zero_is_invalid
  · intro l₁ l₂ u h hu
    simp [zeroCycle_sample rfl h hu]

theorem witness_DashesUntilFirstReading :
    (∀ b, Instr.wrbuf b ∉ zeroCycle) ∧ NoReading (.reset :: zeroCycle) (machineAt .wait .r5 none []) ∧
    ∃ t, runInstrs (.reset :: zeroCycle ++ [.tick]) (machineAt .wait .r5 none []) = .next t := by
  refine ⟨by simp [zeroCycle], ?_, _, rfl⟩
  intro l₁ l₂ u c h hu hc
  rcases l₁ with _ | ⟨a, l⟩
  · cases h
  · simp only [List.cons_append, List.cons.injEq] at h
    obtain ⟨rfl, h⟩ := h
    have hs := zeroCycle_sample (s := resetElements Config.params (machineAt .wait .r5 none [])) rfl h hu
    rw [hc] at hs
    cases hs
    exact .inl zero_is_invalid

theorem witness_FreeRunNeverEnds : State.reset.inputs = [] := rfl

theorem witness_EachStepKeepsTheRotation :
    (∃ t, exec .reset (machineAt .cnv .r5 none []) = .next t) ∧ (∃ t, exec .tick State.reset = .next t) ∧
    (∃ t, exec .discharge State.reset = .next t) ∧ Instr.discharge ≠ .reset ∧ Instr.discharge ≠ .tick :=
  ⟨⟨_, rfl⟩, ⟨_, rfl⟩, ⟨_, rfl⟩, nofun, nofun⟩

theorem witness_EachStepKeepsTheDashes :
    (∃ t, exec .reset (machineAt .cnv .r5 none []) = .next t) ∧
    (∃ t, exec .tick State.reset = .next t) ∧ State.reset.buf = dashes ∧
    (∃ t, exec .convert (machineAt .cnv .r3 (some 0) []) = .next t) ∧ (machineAt .cnv .r3 (some 0) []).buf = dashes ∧
    (∀ b, Instr.convert ≠ .wrbuf b) ∧ (machineAt .cnv .r3 (some 0) []).sample = some 0 ∧
    (0#16).toNat < Config.params.sampleMin :=
  ⟨⟨_, rfl⟩, ⟨_, rfl⟩, rfl, ⟨_, rfl⟩, rfl, nofun, rfl, zero_is_invalid⟩

/-- Steps of a waiting word: a CONVERT that finds a rejected sample, a trip with an invalid count, and a RERANGE after a
rejected sample. -/
theorem witness_EachStepKeepsTheFreeze :
    NoReadingDue (machineAt .cnv .r3 (some 0) [.ev 0x70000000]) ∧
    performs (machineAt .cnv .r3 (some 0) [.ev 0x70000000]) = some .convert ∧
    (∃ t, step (machineAt .cnv .r3 (some 0) [.ev 0x70000000]) = .next t) ∧
    performs (machineAt .wait .r3 none [.ev 0x50000000]) = some (.capture 0) ∧
    (0#16).toNat < Config.params.sampleMin ∧
    NoReadingDue (machineAt .rng .r3 none [.ev 0x80000000]) ∧
    performs (machineAt .rng .r3 none [.ev 0x80000000]) = some .rerange ∧
    (∃ t, step (machineAt .rng .r3 none [.ev 0x80000000]) = .next t) ∧
    ∀ rest, (machineAt .rng .r3 none [.ev 0x80000000]).conv ≠ .noSample rest := by
  refine ⟨⟨?_, nofun⟩, rfl, ⟨_, rfl⟩, rfl, zero_is_invalid, ⟨nofun, fun _ => nofun⟩, rfl, ⟨_, rfl⟩, nofun⟩
  rintro c ⟨⟩
  exact .inl zero_is_invalid

/-- Each digit index is reached by a TICK, under both polarities. -/
theorem witness_TickDrivesSegmentAndPointPins :
    ∀ d : Fin 4, after (exec .tick { at_ .dis .r3 none with dig := BitVec.ofNat 2 (d.val + 3) }) (fun s => s.dig.toNat) =
      some d.val := by decide

theorem witness_FairRunsVisitEveryPhaseForever : WeaklyFair alternating ∧ ∀ n, alternating n ≠ .reset := by
  refine ⟨fun n => ⟨⟨2 * n + 1, by omega, ?_⟩, ⟨2 * n, by omega, ?_⟩⟩, fun n => ?_⟩
  · simp [alternating]
  · simp [alternating]
  · unfold alternating
    split <;> nofun

end Sys2Proof.Tests
end

section
/-! A step of a machine with no waiting word is the next turn of the open schedule (log entry 4). -/

namespace Sys2Proof.Machine

/-- Where no word waits, a step is the operation of the agent whose turn it is, in the state with that turn counted. -/
theorem step_of_inputs_nil {s : State} (h : s.inputs = []) :
    step s = exec (turnInstr (Config.schedule s.turns) s.ph) (s.setTurns (s.turns + 1)) := by
  simp only [step, fetch_nil h, freeTurn]

/-- Settles O7: each agent performs its operation on its turn, and the sequencer's is the one its phase enables. -/
theorem stepTakesFreeTurn : Obligations.StepTakesFreeTurn := by
  intro s hnone
  rw [step_of_inputs_nil hnone]
  refine congr (congrArg exec ?_) rfl
  cases Config.schedule s.turns with
  | tick | trip | reset => rfl
  | sequencer => cases s.ph <;> rfl

end Sys2Proof.Machine
end

section
/-! The state elements: which operations write the display buffer (spec/10_state.md R20), what a step performs (R17)
and the state RESET leaves (R31). -/

namespace Sys2Proof.Machine

/-! ### The writers of the display buffer -/

theorem writesBuffer_eq_false {i : Instr} (hwrbuf : ∀ b, i ≠ .wrbuf b) (hconvert : i ≠ .convert) (hreset : i ≠ .reset) :
    writesBuffer i = false := by
  cases i with
  | wrbuf b => exact absurd rfl (hwrbuf b)
  | convert => exact absurd rfl hconvert
  | reset => exact absurd rfl hreset
  | _ => rfl

/-- R20, R32: an operation that is no writer of the display buffer leaves all five fields of it. -/
theorem exec_keeps_buf {i : Instr} {s t : State} (hi : writesBuffer i = false) (h : exec i s = .next t) :
    t.buf = s.buf := by
  cases i with
  | wrbuf | convert | reset => cases hi
  | discharge => obtain ⟨-, rfl⟩ := exec_discharge_eq_next.1 h; rfl
  | charge => obtain ⟨-, rfl⟩ := exec_charge_eq_next.1 h; rfl
  | disarm => obtain ⟨-, rfl⟩ := exec_disarm_eq_next.1 h; rfl
  | rerange => obtain ⟨-, rfl⟩ := exec_rerange_eq_next.1 h; rfl
  | capture c =>
    rw [exec_capture_eq_next.1 h]
    split <;> rfl
  | reserved9 | reservedAB | reservedCD | reservedE => cases h
  | _ =>
    cases h
    rfl

/-- Settles O33: every instruction but the three named is no writer of the buffer. -/
theorem onlyWritersChangeBuffer : Obligations.OnlyWritersChangeBuffer :=
  fun _ _ _ h hwrbuf hconvert hreset => exec_keeps_buf (writesBuffer_eq_false hwrbuf hconvert hreset) h

/-! ### A step with a word waiting -/

/-- Where a word waits and decodes, a step is its operation in the state without it. -/
theorem step_of_inputs_cons {s : State} {w : FormatWord} {rest : List FormatWord} {i : Instr}
    (h : s.inputs = w :: rest) (hd : decode w = .ok i) : step s = exec i (s.setInputs rest) := by
  simp only [step, fetch_cons h, hd]

/-- Settles O5: the state without the word differs in the list of waiting words only. -/
theorem stepPerformsDecodedWord : Obligations.StepPerformsDecodedWord :=
  fun _ _ _ _ h hd => step_of_inputs_cons h hd

/-! ### The phase check -/

/-- The operation a phase enables is refused in any other phase (R75). -/
theorem exec_sequencerInstr_of_ne {p : Phase} {s : State} (h : s.ph ≠ p) :
    exec (sequencerInstr p) s = .refused .outOfPhase := by
  cases p with
  | dis | chg | wait | cnv | rng => exact if_neg h

/-! ### RESET -/

theorem exec_reset (s : State) : exec .reset s = .next (resetElements Config.params s) := rfl

/-- RESET releases every charge line (R28, R31). -/
theorem resetElements_chg (p : Params) (s : State) : (resetElements p s).chg = List.replicate p.nRes .rel := rfl

/-- Settles O37: RESET leaves N_RES released lines, and every other element is a fixed value of the table. -/
theorem resetLeavesTableValues : Obligations.ResetLeavesTableValues := fun s =>
  ⟨(resetElements Config.params s).chg, by simp [resetElements_chg], fun k hk => by simp [resetElements_chg, hk],
    exec_reset s⟩

/-- Settles O38: in `P_DIS` the phase check passes DISCHARGE and refuses the other four, and TICK steps from digit 3 to
digit 0, where the buffer holds a dash. -/
theorem resetStateIsTheStartOfTheCycle : Obligations.ResetStateIsTheStartOfTheCycle := by
  refine ⟨exec_reset State.reset, ⟨_, exec_discharge_eq_next.2 ⟨rfl, rfl⟩⟩, ?charge, ?disarm, ?convert, ?rerange, ?tick⟩
  case charge => exact exec_sequencerInstr_of_ne (p := .chg) nofun
  case disarm => exact exec_sequencerInstr_of_ne (p := .wait) nofun
  case convert => exact exec_sequencerInstr_of_ne (p := .cnv) nofun
  case rerange => exact exec_sequencerInstr_of_ne (p := .rng) nofun
  case tick => exact ⟨_, rfl, rfl, rfl, rfl, rfl⟩

/-! ### The invariant after RESET -/

/-- Whatever the state before, RESET leaves one with the invariant: nothing is selected, armed or held, and in `P_DIS`
only the number of the charge lines is asked for. -/
theorem inv_resetElements (s : State) : Inv (resetElements Config.params s) where
  select := .inl rfl
  conv := nofun
  armed := ⟨nofun, nofun⟩
  sample := fun h => absurd rfl h
  lines := ⟨by simp [resetElements_chg], nofun, by rintro (h | h | h) <;> cases h⟩

/-- Settles O40: the reset state is what RESET leaves of it (R106, R107). -/
theorem resetHasInvariant : Obligations.ResetHasInvariant :=
  inv_resetElements State.reset

end Sys2Proof.Machine
end

section
/-! A tick and the operations that write no buffer are independent (spec/20_memory.md R32, spec/41_refresh.md R72): TICK
reads the buffer and `DIG`, which they leave, and writes `DIG` and the output register, which they do not read. -/

namespace Sys2Proof.Machine

/-- The state that TICK leaves (R67). -/
def afterTick (s : State) : State :=
  let d := s.dig + 1
  s.setDisplay d ((glyphMask (s.buf.glyph d)).extractLsb' 0 7) (d.setWidth 3 == s.buf.dp) (onehot4 d)

theorem exec_tick (s : State) : exec .tick s = .next (afterTick s) := rfl

/-- A result with its next state replaced; a fault or a refusal stays. -/
def mapNext (f : State → State) : Result → Result
  | .next s => .next (f s)
  | .fault x => .fault x
  | .refused r => .refused r

theorem runInstrs_tick_then (i : Instr) (s : State) : runInstrs [.tick, i] s = exec i (afterTick s) := by
  simp only [runInstrs, exec_tick]
  cases exec i (afterTick s) <;> rfl

theorem runInstrs_then_tick (i : Instr) (s : State) : runInstrs [i, .tick] s = mapNext afterTick (exec i s) := by
  simp only [runInstrs, exec_tick]
  cases exec i s <;> rfl

/-- TICK leaves the phase, so the phase check answers the same after it; what is left is that the effect commutes. -/
theorem sequencerStep_afterTick {p : Phase} {f : State → State} {s : State} (h : f (afterTick s) = afterTick (f s)) :
    sequencerStep p f (afterTick s) = mapNext afterTick (sequencerStep p f s) := by
  have hph : (afterTick s).ph = s.ph := rfl
  by_cases hp : s.ph = p
  · rw [sequencerStep_of_ph hp, sequencerStep_of_ph (hph.trans hp), h]
    rfl
  · rw [sequencerStep_of_ne hp, sequencerStep_of_ne (hph ▸ hp)]
    rfl

/-- TICK leaves what decides whether a trip is recorded (R78). -/
theorem execCapture_afterTick (c : Count) (s : State) :
    execCapture c (afterTick s) = mapNext afterTick (execCapture c s) := by
  have haccepts : (afterTick s).acceptsTrip = s.acceptsTrip := rfl
  simp only [execCapture, haccepts, mapNext]
  cases s.acceptsTrip <;> rfl

/-- An operation that writes no buffer answers after a TICK what it answers before, with that TICK's state. -/
theorem exec_afterTick {i : Instr} (hi : writesBuffer i = false) (s : State) :
    exec i (afterTick s) = mapNext afterTick (exec i s) := by
  cases i with
  | wrbuf | convert | reset => cases hi
  | discharge =>
    simp only [exec, execDischarge, discharge]
    exact sequencerStep_afterTick rfl
  | charge =>
    simp only [exec, execCharge, charge]
    exact sequencerStep_afterTick rfl
  | disarm =>
    simp only [exec, execDisarm]
    exact sequencerStep_afterTick rfl
  | rerange =>
    simp only [exec, execRerange, rerange]
    exact sequencerStep_afterTick rfl
  | capture c => exact execCapture_afterTick c s
  | _ => rfl

/-- Settles O36: both orders are the operation's own outcome, with the state TICK leaves. -/
theorem tickCommutesWithNonWriters : Obligations.TickCommutesWithNonWriters := fun i s hi => by
  rw [runInstrs_tick_then, runInstrs_then_tick, exec_afterTick hi]

end Sys2Proof.Machine
end

section
/-! The writes of the display buffer (spec/20_memory.md R34, R40, R41): each replaces all five fields, and after a run the
buffer is that of the last one. -/

namespace Sys2Proof.Machine

/-! ### One write -/

/-- R50: a buffer word is the sum of its fields, each at its place. -/
theorem Buffer.toNat_eq_sum_unpack (w : BufWord) :
    w.toNat = (Buffer.unpack w).g0.toNat + (Buffer.unpack w).g1.toNat * 2 ^ 5 + (Buffer.unpack w).g2.toNat * 2 ^ 10 +
      (Buffer.unpack w).g3.toNat * 2 ^ 15 + (Buffer.unpack w).dp.toNat * 2 ^ 20 := by
  rw [← Buffer.toNat_pack, Buffer.pack_unpack]

theorem exec_wrbuf (w : BufWord) (s : State) : exec (.wrbuf w) s = .next (s.setBuf (Buffer.unpack w)) := rfl

/-- Settles O17: the fields are those the word unpacks to. -/
theorem wrbufReplacesWholeBuffer : Obligations.WrbufReplacesWholeBuffer := fun w s =>
  ⟨Buffer.unpack w, Buffer.toNat_eq_sum_unpack w, exec_wrbuf w s⟩

theorem validCount_eq_true {p : Params} {c : Count} :
    validCount p c = true ↔ p.sampleMin ≤ c.toNat ∧ c.toNat ≤ p.sampleMax := decide_eq_true_iff

theorem validCount_eq_false {p : Params} {c : Count} :
    validCount p c = false ↔ c.toNat < p.sampleMin ∨ p.sampleMax < c.toNat := by
  rw [validCount, decide_eq_false_iff_not]
  omega

/-- The operation, performed in the state, writes the buffer, and with this one (R20, R68, R84, R107). -/
inductive BufWrite : Instr → State → Buffer → Prop where
  | wrbuf (w : BufWord) (s : State) : BufWrite (.wrbuf w) s (Buffer.unpack w)
  | reset (s : State) : BufWrite .reset s dashes
  | reading {s : State} {c : Count} (hsample : s.sample = some c) (hvalid : validCount Config.params c = true) :
      BufWrite .convert s (Buffer.unpack (readingWord s.range (scale s.range c)))

/-- All five fields of a write, in arithmetic (R50, R83). -/
theorem BufWrite.fields {i : Instr} {s : State} {f : Buffer} (h : BufWrite i s f) :
    (∃ b : BufWord, i = .wrbuf b ∧
      b.toNat = f.g0.toNat + f.g1.toNat * 2 ^ 5 + f.g2.toNat * 2 ^ 10 + f.g3.toNat * 2 ^ 15 + f.dp.toNat * 2 ^ 20) ∨
    (i = .reset ∧ f = dashes) ∨
    (i = .convert ∧ ∃ c : Count, s.sample = some c ∧
      Config.params.sampleMin ≤ c.toNat ∧ c.toNat ≤ Config.params.sampleMax ∧
      f.g0.toNat = scale s.range c / 100 % 10 ∧ f.g1.toNat = scale s.range c / 10 % 10 ∧
      f.g2.toNat = scale s.range c % 10 ∧ f.g3 = (rangeRow s.range).unit ∧ f.dp = (rangeRow s.range).dp) := by
  cases h with
  | wrbuf w => exact .inl ⟨w, rfl, Buffer.toNat_eq_sum_unpack w⟩
  | reset => exact .inr (.inl ⟨rfl, rfl⟩)
  | @reading _ c hsample hvalid =>
    have hdigit (n : Nat) : (digitSym (n % 10)).toNat = n % 10 := toNat_digitSym (Nat.mod_lt n (by decide))
    obtain ⟨hmin, hmax⟩ := validCount_eq_true.1 hvalid
    rw [unpack_readingWord]
    exact .inr (.inr ⟨rfl, c, hsample, hmin, hmax, hdigit _, hdigit _, hdigit _, rfl, rfl⟩)

/-! ### Lists without a write -/

theorem noReading_nil (s : State) : NoReading [] s := by
  intro l₁ l₂ u c h
  cases l₁ <;> cases h

/-- A list puts up no reading if its first operation puts up none and the others, from the state it leaves, put up
none. -/
theorem noReading_cons {i : Instr} {l : List Instr} {s u : State} (hu : exec i s = .next u) :
    NoReading (i :: l) s ↔
      (i = .convert → ∀ c, s.sample = some c →
        c.toNat < Config.params.sampleMin ∨ Config.params.sampleMax < c.toNat) ∧ NoReading l u := by
  constructor
  · intro h
    refine ⟨?first, ?rest⟩
    case first =>
      rintro rfl c hc
      exact h [] l s c rfl rfl hc
    case rest =>
      intro l₁ l₂ v c hl hv hc
      exact h (i :: l₁) l₂ v c (congrArg (i :: ·) hl) (runInstrs_cons.2 ⟨u, hu, hv⟩) hc
  · rintro ⟨hfirst, hrest⟩ l₁ l₂ v c hl hv hc
    cases l₁ with
    | nil =>
      cases hl
      cases hv
      exact hfirst rfl c hc
    | cons j l₁ =>
      cases hl
      obtain ⟨w, hw, hv⟩ := runInstrs_cons.1 hv
      obtain rfl : u = w := by simpa [hu] using hw
      exact hrest l₁ l₂ v c rfl hv hc

theorem noBufWrite_nil (s : State) : NoBufWrite [] s := ⟨nofun, fun _ => nofun, noReading_nil s⟩

/-- A list writes no buffer if its first operation writes none and the others, from the state it leaves, write none. -/
theorem noBufWrite_cons {i : Instr} {l : List Instr} {s u : State} (hu : exec i s = .next u) :
    NoBufWrite (i :: l) s ↔
      (i ≠ .reset ∧ (∀ b, i ≠ .wrbuf b) ∧
        (i = .convert → ∀ c, s.sample = some c →
          c.toNat < Config.params.sampleMin ∨ Config.params.sampleMax < c.toNat)) ∧
      NoBufWrite l u := by
  simp only [NoBufWrite, noReading_cons hu, List.mem_cons, not_or, forall_and, ne_eq, eq_comm (b := i)]
  tauto

/-! ### The last write of a run -/

/-- An operation that completes writes the buffer, or it is none of the writers, a CONVERT without a valid sample among
them, and leaves the buffer. -/
theorem exec_buf_cases {i : Instr} {s t : State} (h : exec i s = .next t) :
    BufWrite i s t.buf ∨ (t.buf = s.buf ∧ NoBufWrite [i] s) := by
  have keeps (hreset : i ≠ .reset) (hwrbuf : ∀ b, i ≠ .wrbuf b)
      (hconvert : i = .convert → ∀ c, s.sample = some c → validCount Config.params c = false) : NoBufWrite [i] s :=
    (noBufWrite_cons h).2 ⟨⟨hreset, hwrbuf, fun hi c hc => validCount_eq_false.1 (hconvert hi c hc)⟩, noBufWrite_nil t⟩
  cases hi : writesBuffer i with
  | false =>
    refine .inr ⟨exec_keeps_buf hi h, keeps ?_ ?_ ?_⟩
    · rintro rfl; cases hi
    · rintro b rfl; cases hi
    · rintro rfl; cases hi
  | true =>
    cases i with
    | wrbuf w => cases h; exact .inl (.wrbuf w s)
    | reset => cases h; exact .inl (.reset s)
    | convert =>
      obtain ⟨-, rfl⟩ := exec_convert_eq_next.1 h
      rcases convertSample_cases Config.params s with ⟨hnone, he⟩ | ⟨c, hc, hinvalid, he⟩ | ⟨c, hc, hvalid, he⟩ <;>
        rw [he]
      · exact .inr ⟨rfl, keeps nofun nofun fun _ c hc => by simp [hnone] at hc⟩
      · refine .inr ⟨rfl, keeps nofun nofun fun _ d hd => ?_⟩
        obtain rfl : c = d := by simpa [hc] using hd
        exact hinvalid
      · exact .inl (.reading hc hvalid)
    | _ => cases hi

/-- R41: after a run the buffer is the one it began with and nothing wrote it, or that of its last write. By induction on
the run's operations: the first one is the last write exactly if no later one writes. -/
theorem runInstrs_buf_cases {l : List Instr} {s t : State} (h : runInstrs l s = .next t) :
    (t.buf = s.buf ∧ NoBufWrite l s) ∨
    ∃ (l₁ l₂ : List Instr) (i : Instr) (u v : State),
      l = l₁ ++ i :: l₂ ∧ runInstrs l₁ s = .next u ∧ exec i u = .next v ∧ runInstrs l₂ v = .next t ∧ NoBufWrite l₂ v ∧
      BufWrite i u t.buf := by
  induction l generalizing s with
  | nil =>
    cases h
    exact .inl ⟨rfl, noBufWrite_nil t⟩
  | cons j l ih =>
    obtain ⟨w, hj, ht⟩ := runInstrs_cons.1 h
    rcases ih ht with ⟨hbuf, hl⟩ | ⟨l₁, l₂, i, u, v, rfl, hu, hrest⟩
    · rcases exec_buf_cases hj with hwrite | ⟨hkept, hnone⟩
      · exact .inr ⟨[], l, j, s, w, rfl, rfl, hj, ht, hl, hbuf ▸ hwrite⟩
      · exact .inl ⟨hbuf.trans hkept, (noBufWrite_cons hj).2 ⟨((noBufWrite_cons hj).1 hnone).1, hl⟩⟩
    · exact .inr ⟨j :: l₁, l₂, i, u, v, rfl, runInstrs_cons.2 ⟨w, hj, hu⟩, hrest⟩

/-- Settles O42: the last write's five fields, in arithmetic. -/
theorem bufferIsWholeFromOneWrite : Obligations.BufferIsWholeFromOneWrite := by
  intro l s t h
  rcases runInstrs_buf_cases h with hkept | ⟨l₁, l₂, i, u, v, hl, hu, hv, ht, hnone, hwrite⟩
  · exact .inl hkept
  · exact .inr ⟨l₁, l₂, i, u, v, hl, hu, hv, ht, hnone, hwrite.fields⟩

end Sys2Proof.Machine
end

section
/-! The decoder and the encoder are inverse to each other on well-formed instructions (spec/30_encoding.md R47, R49,
R51 to R54): every row of a format is one shape of word, and each shape is treated once. -/

namespace Sys2Proof

/-! ### The reserved bits of an operand -/

/-- A tag that takes no operand, in arithmetic (R54). -/
theorem ifReservedZero_eq_ite {n : Nat} (x : BitVec n) (i : Instr) :
    ifReservedZero x i = if x.toNat = 0 then .ok i else .error .reservedBits := by
  simp only [ifReservedZero, BitVec.toNat_eq, BitVec.ofNat_eq_ofNat, BitVec.toNat_ofNat, Nat.zero_mod]

/-- A tag with an operand of n bits, in arithmetic: the m bits above it are zero exactly if the whole fits n bits (R53,
R54). -/
theorem ifReservedZero_field_eq_ite {m n : Nat} (f : BitVec n → Instr) (x : BitVec (m + n)) :
    ifReservedZero (x.extractLsb' n m) (f (x.extractLsb' 0 n)) =
      if x.toNat < 2 ^ n then .ok (f (BitVec.ofNat n x.toNat)) else .error .reservedBits := by
  have hlow : x.extractLsb' 0 n = BitVec.ofNat n x.toNat := by
    simp [BitVec.toNat_eq, BitVec.extractLsb'_toNat]
  have hhigh : (x.extractLsb' n m).toNat = x.toNat / 2 ^ n := by
    rw [BitVec.extractLsb'_toNat, Nat.shiftRight_eq_div_pow]
    have hx : x.toNat < 2 ^ n * 2 ^ m := by simpa only [Nat.pow_add, Nat.mul_comm] using x.isLt
    exact Nat.mod_eq_of_lt (Nat.div_lt_of_lt_mul hx)
  simp only [ifReservedZero_eq_ite, hlow, hhigh, Nat.div_eq_zero_iff_lt (Nat.two_pow_pos n)]

/-- An operand below zero bits is read back (R53). -/
theorem ifReservedZero_zero_append {m n : Nat} (f : BitVec n → Instr) (y : BitVec n) :
    ifReservedZero ((0#m ++ y).extractLsb' n m) (f ((0#m ++ y).extractLsb' 0 n)) = .ok (f y) :=
  ifReservedZero_eq_ok.2 ⟨BitVec.extractLsb'_append_eq_left, congrArg f BitVec.extractLsb'_append_eq_right⟩

/-! ### The tag of an event word -/

theorem decode_eventWord (tag : BitVec 4) (x : BitVec 28) : decode (.ev (eventWord tag x)) = decodeTagged tag x := by
  simp only [decode, decodeEvent, eventTag_eventWord, eventOperand_eventWord]

/-- The sixteen tags, in the order of R52's table. -/
theorem tag_cases (tag : BitVec 4) :
    tag = 0x0 ∨ tag = 0x1 ∨ tag = 0x2 ∨ tag = 0x3 ∨ tag = 0x4 ∨ tag = 0x5 ∨ tag = 0x6 ∨ tag = 0x7 ∨
    tag = 0x8 ∨ tag = 0x9 ∨ tag = 0xA ∨ tag = 0xB ∨ tag = 0xC ∨ tag = 0xD ∨ tag = 0xE ∨ tag = 0xF := by
  revert tag; decide

/-! ### Decoding an encoded instruction -/

theorem wellFormed_reservedAB {tag : BitVec 4} {x : BitVec 28} :
    (Instr.reservedAB tag x).wellFormed = true ↔ tag = 0xA ∨ tag = 0xB := by
  simp [Instr.wellFormed]

theorem wellFormed_reservedCD {tag : BitVec 4} {x : BitVec 28} :
    (Instr.reservedCD tag x).wellFormed = true ↔ tag = 0xC ∨ tag = 0xD := by
  simp [Instr.wellFormed]

theorem decodeSym_of_unmapped14 :
    ∀ c : Sym, (Instr.symUnmapped14 c).wellFormed = true → decodeSym c = .symUnmapped14 c := by decide

theorem decodeSym_of_unmapped18 :
    ∀ c : Sym, (Instr.symUnmapped18 c).wellFormed = true → decodeSym c = .symUnmapped18 c := by decide

theorem decodeDp_of_dp45 : ∀ x : DpIndex, (Instr.dp45 x).wellFormed = true → decodeDp x = .dp45 x := by decide

/-- Settles O1: a row with an operand reads it back from below its reserved zero bits, a row of several codes names one
of its own, and every other row is one word. -/
theorem decodeOfEncodeIsIdentity : Obligations.DecodeOfEncodeIsIdentity := by
  intro i hi
  cases i with
  | enc c => exact (decode_eventWord _ _).trans (ifReservedZero_zero_append (m := 23) .enc c)
  | wrbuf b => exact (decode_eventWord _ _).trans (ifReservedZero_zero_append (m := 5) .wrbuf b)
  | capture t => exact (decode_eventWord _ _).trans (ifReservedZero_zero_append (m := 12) .capture t)
  | reserved9 x => exact decode_eventWord 0x9 x
  | reservedE x => exact decode_eventWord 0xE x
  | reservedAB tag x => rcases wellFormed_reservedAB.1 hi with rfl | rfl <;> exact decode_eventWord _ x
  | reservedCD tag x => rcases wellFormed_reservedCD.1 hi with rfl | rfl <;> exact decode_eventWord _ x
  | symUnmapped14 c => exact congrArg Except.ok (decodeSym_of_unmapped14 c hi)
  | symUnmapped18 c => exact congrArg Except.ok (decodeSym_of_unmapped18 c hi)
  | dp45 x => exact congrArg Except.ok (decodeDp_of_dp45 x hi)
  | _ => rfl

/-! ### Encoding a decoded word -/

/-- The instruction stands for the word. -/
def Instr.StandsFor (i : Instr) (w : FormatWord) : Prop := i.wellFormed = true ∧ encode i = w

/-- What a decoder may answer for a word: an instruction that stands for it, or the one refusal of its format. -/
def ReadsAs (w : FormatWord) (refusal : DecodeRefusal) (answer : Except DecodeRefusal Instr) : Prop :=
  answer = .error refusal ∨ ∃ i, answer = .ok i ∧ i.StandsFor w

theorem Instr.StandsFor.readsAs {i : Instr} {w : FormatWord} {r : DecodeRefusal} (h : i.StandsFor w) :
    ReadsAs w r (.ok i) := .inr ⟨i, rfl, h⟩

/-- A tag that takes no operand: what passes the check is the tag's one word. -/
theorem readsAs_bare {i : Instr} {tag : BitVec 4} (h : i.StandsFor (.ev (eventWord tag 0))) (x : BitVec 28) :
    ReadsAs (.ev (eventWord tag x)) .reservedBits (ifReservedZero x i) := by
  by_cases hx : x = 0
  · subst hx
    exact .inr ⟨i, ifReservedZero_eq_ok.2 ⟨rfl, rfl⟩, h⟩
  · exact .inl (ifReservedZero_eq_error.2 ⟨hx, rfl⟩)

/-- A tag with an operand of n bits: what passes the check is the operand below m zero bits. -/
theorem readsAs_field {m n : Nat} {f : BitVec n → Instr} {word : BitVec (m + n) → EventWord}
    (h : ∀ y, (f y).StandsFor (.ev (word (0#m ++ y)))) (x : BitVec (m + n)) :
    ReadsAs (.ev (word x)) .reservedBits (ifReservedZero (x.extractLsb' n m) (f (x.extractLsb' 0 n))) := by
  by_cases hx : x.extractLsb' n m = 0
  · refine .inr ⟨_, ifReservedZero_eq_ok.2 ⟨hx, rfl⟩, ?_⟩
    have hword : 0#m ++ x.extractLsb' 0 n = x :=
      (congrArg (· ++ x.extractLsb' 0 n) hx.symm).trans BitVec.extractLsb'_append_extractLsb'
    simpa only [hword] using h (x.extractLsb' 0 n)
  · exact .inl (ifReservedZero_eq_error.2 ⟨hx, rfl⟩)

/-- What an event word decodes to, tag by tag (R52, R53, R54). -/
theorem decodeTagged_readsAs (tag : BitVec 4) (x : BitVec 28) :
    ReadsAs (.ev (eventWord tag x)) .reservedBits (decodeTagged tag x) := by
  rcases tag_cases tag with
    rfl | rfl | rfl | rfl | rfl | rfl | rfl | rfl | rfl | rfl | rfl | rfl | rfl | rfl | rfl | rfl
  · exact readsAs_field (m := 23) (f := .enc) (word := eventWord 0x0) (fun _ => ⟨rfl, rfl⟩) x
  · exact readsAs_bare (i := .tick) ⟨rfl, rfl⟩ x
  · exact readsAs_field (m := 5) (f := .wrbuf) (word := eventWord 0x2) (fun _ => ⟨rfl, rfl⟩) x
  · exact readsAs_bare (i := .discharge) ⟨rfl, rfl⟩ x
  · exact readsAs_bare (i := .charge) ⟨rfl, rfl⟩ x
  · exact readsAs_field (m := 12) (f := .capture) (word := eventWord 0x5) (fun _ => ⟨rfl, rfl⟩) x
  · exact readsAs_bare (i := .disarm) ⟨rfl, rfl⟩ x
  · exact readsAs_bare (i := .convert) ⟨rfl, rfl⟩ x
  · exact readsAs_bare (i := .rerange) ⟨rfl, rfl⟩ x
  · exact Instr.StandsFor.readsAs (i := .reserved9 x) ⟨rfl, rfl⟩
  · exact Instr.StandsFor.readsAs (i := .reservedAB 0xA x) ⟨rfl, rfl⟩
  · exact Instr.StandsFor.readsAs (i := .reservedAB 0xB x) ⟨rfl, rfl⟩
  · exact Instr.StandsFor.readsAs (i := .reservedCD 0xC x) ⟨rfl, rfl⟩
  · exact Instr.StandsFor.readsAs (i := .reservedCD 0xD x) ⟨rfl, rfl⟩
  · exact Instr.StandsFor.readsAs (i := .reservedE x) ⟨rfl, rfl⟩
  · exact readsAs_bare (i := .reset) ⟨rfl, rfl⟩ x

theorem decodeEvent_readsAs (w : EventWord) : ReadsAs (.ev w) .reservedBits (decodeEvent w) := by
  have h := decodeTagged_readsAs (eventTag w) (eventOperand w)
  rwa [eventWord_eventTag_eventOperand] at h

/-- Each of the 32 symbol codes is the word of its row (R47). -/
theorem decodeSym_standsFor : ∀ c : Sym, (decodeSym c).StandsFor (.sym c) := by
  unfold Instr.StandsFor; decide

/-- Each of the eight decimal-point indices is the word of its row (R49). -/
theorem decodeDp_standsFor : ∀ x : DpIndex, (decodeDp x).StandsFor (.dp x) := by
  unfold Instr.StandsFor; decide

theorem rngCode_cases (w : BitVec 3) : w = 0 ∨ w = 1 ∨ w = 2 ∨ w = 3 ∨ w = 4 ∨ w = 5 ∨ w = 6 ∨ w = 7 := by
  revert w; decide

theorem decodeRng_readsAs (w : BitVec 3) : ReadsAs (.rng w) .illegalRangeCode (decodeRng w) := by
  rcases rngCode_cases w with rfl | rfl | rfl | rfl | rfl | rfl | rfl | rfl
  · exact .inl rfl
  · exact .inr ⟨.range1, rfl, rfl, rfl⟩
  · exact .inr ⟨.range2, rfl, rfl, rfl⟩
  · exact .inr ⟨.range3, rfl, rfl, rfl⟩
  · exact .inr ⟨.range4, rfl, rfl, rfl⟩
  · exact .inr ⟨.range5, rfl, rfl, rfl⟩
  · exact .inl rfl
  · exact .inl rfl

theorem ReadsAs.standsFor {w : FormatWord} {r : DecodeRefusal} {answer : Except DecodeRefusal Instr} {i : Instr}
    (h : ReadsAs w r answer) (hi : answer = .ok i) : i.StandsFor w := by
  rcases h with he | ⟨j, hj, hw⟩
  · simp [he] at hi
  · obtain rfl : j = i := by simpa [hj] using hi
    exact hw

theorem ReadsAs.refusal_eq {w : FormatWord} {r r' : DecodeRefusal} {answer : Except DecodeRefusal Instr}
    (h : ReadsAs w r answer) (hr : answer = .error r') : r' = r := by
  rcases h with he | ⟨j, hj, -⟩
  · simpa [he, eq_comm] using hr
  · simp [hj] at hr

/-- Settles O2: in every format, what a word decodes to stands for it. -/
theorem encodeOfDecodeIsIdentity : Obligations.EncodeOfDecodeIsIdentity := by
  intro w i h
  cases w with
  | ev w => exact (decodeEvent_readsAs w).standsFor h
  | sym c => cases h; exact decodeSym_standsFor c
  | dp x => cases h; exact decodeDp_standsFor x
  | rng w => exact (decodeRng_readsAs w).standsFor h

end Sys2Proof
end

section
/-! Event words by their tag and operand in arithmetic, and what a step makes of a word that decodes to no operation
(spec/30_encoding.md R52 to R56). -/

namespace Sys2Proof.Machine

/-! ### The reserved tags -/

/-- R56: a reserved row is refused in every state. -/
theorem exec_of_isReservedTag {i : Instr} (h : isReservedTag i = true) (s : State) :
    exec i s = .refused .reservedTag := by
  cases i with
  | reserved9 | reservedAB | reservedCD | reservedE => rfl
  | _ => cases h

/-- Settles O14: the four constructors are the reserved rows, whatever tag and operand they carry. -/
theorem reservedTagsAreRefused : Obligations.ReservedTagsAreRefused := fun s _ _ =>
  ⟨exec_of_isReservedTag rfl s, exec_of_isReservedTag rfl s, exec_of_isReservedTag rfl s, exec_of_isReservedTag rfl s⟩

/-- R55: the tags 0x9 to 0xE decode to reserved rows (log entry 8). -/
theorem decodeTagged_reserved {tag : BitVec 4} (hlow : 0x9 ≤ tag.toNat) (hhigh : tag.toNat ≤ 0xE) (x : BitVec 28) :
    ∃ i, decodeTagged tag x = .ok i ∧ isReservedTag i = true := by
  have htag : ∀ t : BitVec 4, 0x9 ≤ t.toNat → t.toNat ≤ 0xE →
      t = 0x9 ∨ t = 0xA ∨ t = 0xB ∨ t = 0xC ∨ t = 0xD ∨ t = 0xE := by decide
  rcases htag tag hlow hhigh with rfl | rfl | rfl | rfl | rfl | rfl
  · exact ⟨.reserved9 x, rfl, rfl⟩
  · exact ⟨.reservedAB 0xA x, rfl, rfl⟩
  · exact ⟨.reservedAB 0xB x, rfl, rfl⟩
  · exact ⟨.reservedCD 0xC x, rfl, rfl⟩
  · exact ⟨.reservedCD 0xD x, rfl, rfl⟩
  · exact ⟨.reservedE x, rfl, rfl⟩

/-! ### Event words in arithmetic -/

/-- The top four bits of an event word choose the row of the table (R52). -/
theorem decode_ev_of_tag {w : EventWord} {tag : BitVec 4} (h : w.toNat / 2 ^ 28 = tag.toNat) :
    decode (.ev w) = decodeTagged tag (eventOperand w) := by
  have htag : eventTag w = tag := BitVec.eq_of_toNat_eq ((toNat_eventTag w).trans h)
  simp only [decode, decodeEvent, htag]

theorem decode_ev_bare {w : EventWord} {tag : BitVec 4} {i : Instr}
    (hrow : ∀ x, decodeTagged tag x = ifReservedZero x i) (h : w.toNat / 2 ^ 28 = tag.toNat) :
    decode (.ev w) = if w.toNat % 2 ^ 28 = 0 then .ok i else .error .reservedBits := by
  rw [decode_ev_of_tag h, hrow, ifReservedZero_eq_ite, toNat_eventOperand]

theorem decode_ev_field {w : EventWord} {tag : BitVec 4} {m n : Nat} (f : BitVec n → Instr) (hmn : 28 = m + n)
    (hrow : ∀ x, decodeTagged tag x = ifReservedZero (x.extractLsb' n m) (f (x.extractLsb' 0 n)))
    (h : w.toNat / 2 ^ 28 = tag.toNat) :
    decode (.ev w) =
      if w.toNat % 2 ^ 28 < 2 ^ n then .ok (f (BitVec.ofNat n (w.toNat % 2 ^ 28))) else .error .reservedBits := by
  have harith := ifReservedZero_field_eq_ite f ((eventOperand w).cast hmn)
  rw [BitVec.toNat_cast, toNat_eventOperand] at harith
  rw [decode_ev_of_tag h, hrow, ← harith]
  simp only [BitVec.extractLsb'_cast]

/-- Settles O3: three tags take an operand field, seven take none, and six are reserved. -/
theorem eventWordDecodesByTagAndOperand : Obligations.EventWordDecodesByTagAndOperand := by
  intro w t x bare
  refine ⟨?enc, ?tick, ?wrbuf, ?discharge, ?charge, ?capture, ?disarm, ?convert, ?rerange, ?reserved, ?reset⟩
  case enc => exact decode_ev_field (tag := 0x0) (m := 23) .enc rfl fun _ => rfl
  case tick => exact decode_ev_bare (tag := 0x1) fun _ => rfl
  case wrbuf => exact decode_ev_field (tag := 0x2) (m := 5) .wrbuf rfl fun _ => rfl
  case discharge => exact decode_ev_bare (tag := 0x3) fun _ => rfl
  case charge => exact decode_ev_bare (tag := 0x4) fun _ => rfl
  case capture => exact decode_ev_field (tag := 0x5) (m := 12) .capture rfl fun _ => rfl
  case disarm => exact decode_ev_bare (tag := 0x6) fun _ => rfl
  case convert => exact decode_ev_bare (tag := 0x7) fun _ => rfl
  case rerange => exact decode_ev_bare (tag := 0x8) fun _ => rfl
  case reserved =>
    intro hlow hhigh
    have htag : (eventTag w).toNat = t := toNat_eventTag w
    obtain ⟨i, hi, hreserved⟩ := decodeTagged_reserved (htag ▸ hlow) (htag ▸ hhigh) (eventOperand w)
    exact ⟨i, hi, exec_of_isReservedTag hreserved⟩
  case reset => exact decode_ev_bare (tag := 0xF) fun _ => rfl

/-- Settles O4: thirteen of the words are those the encoder writes out for the instruction named (O1); a 1 in bit 5 of a
word of ENC is a reserved bit, and the range code 6 is not legal. -/
theorem writtenOutWordsDecode : Obligations.WrittenOutWordsDecode :=
  have ofEncode := decodeOfEncodeIsIdentity
  ⟨ofEncode (.enc 0x13) rfl, ofEncode .tick rfl, ofEncode (.wrbuf 0x188C41) rfl, ofEncode .discharge rfl,
    ofEncode (.capture 450) rfl, ofEncode .rerange rfl, ofEncode .reset rfl, ofEncode (.reservedAB 0xA 0) rfl,
    rfl, ofEncode .symU rfl, ofEncode (.symUnmapped18 0x1F) rfl, ofEncode .dpNone rfl, ofEncode (.dp45 5) rfl,
    ofEncode .range4 rfl, rfl⟩

/-! ### A step with a word that decodes to nothing -/

theorem step_of_decode_error {s : State} {w : FormatWord} {rest : List FormatWord} {r : DecodeRefusal}
    (h : s.inputs = w :: rest) (hd : decode w = .error r) : step s = .refused (.ofDecode r) := by
  simp only [step, fetch_cons h, hd]

/-- The three codes of no range (R51). -/
theorem decodeRng_of_illegal {w : BitVec 3} (h : w.toNat = 0 ∨ w.toNat = 6 ∨ w.toNat = 7) :
    decode (.rng w) = .error .illegalRangeCode := by
  simp only [decode, decodeRng]
  rcases h with h | h | h <;> simp only [h]

/-- Settles O6: the decoder has one refusal for each of the two formats. -/
theorem stepRefusesUndecodableWord : Obligations.StepRefusesUndecodableWord := by
  intro s rest r
  refine ⟨?event, ?range⟩
  case event =>
    intro w h hd
    obtain rfl := (decodeEvent_readsAs w).refusal_eq hd
    exact step_of_decode_error h hd
  case range =>
    intro w h hw
    exact step_of_decode_error h (decodeRng_of_illegal hw)

end Sys2Proof.Machine
end

section
/-! The code rows as lookups, and which instructions complete (spec/30_encoding.md R49, R51, R56,
spec/42_measurement.md R75, R81, R82). -/

namespace Sys2Proof.Machine

/-! ### Lookups -/

theorem queryDp_of_dpDigit {dp : DpIndex} {d : Option Digit} (h : dpDigit dp = d) (s : State) :
    queryDp dp s = .next { s with answer := .digit d } := h ▸ rfl

theorem queryRange_of_rangeRow {r : RangeSetting} {row : RangeRow} (h : rangeRow r = row) (s : State) :
    queryRange r s = .next { s with answer := .rangeRow row } := h ▸ rfl

/-- An index of 4 or more names no digit (R49). -/
theorem dpDigit_of_four_le : ∀ {dp : DpIndex}, 4 ≤ dp.toNat → dpDigit dp = none := by decide

/-- Settles O12: each row is the lookup of its own index. -/
theorem decimalPointRowsNameTheirDigit : Obligations.DecimalPointRowsNameTheirDigit := by
  intro s
  refine ⟨?dp0, ?dp1, ?dp2, ?dp3, ?dpNone, ?dp45, ?dp6⟩
  case dp0 => exact queryDp_of_dpDigit (dp := 0) rfl s
  case dp1 => exact queryDp_of_dpDigit (dp := 1) rfl s
  case dp2 => exact queryDp_of_dpDigit (dp := 2) rfl s
  case dp3 => exact queryDp_of_dpDigit (dp := 3) rfl s
  case dpNone => exact queryDp_of_dpDigit (dp := 7) (dpDigit_of_four_le (by decide)) s
  case dp45 => exact fun x hx => queryDp_of_dpDigit (dp := x) (dpDigit_of_four_le (by omega)) s
  case dp6 => exact queryDp_of_dpDigit (dp := 6) (dpDigit_of_four_le (by decide)) s

/-- Settles O13: each row is the lookup of its own range setting. -/
theorem rangeRowsReturnTheirTableRow : Obligations.RangeRowsReturnTheirTableRow := fun s =>
  ⟨queryRange_of_rangeRow (r := .r1) rfl s, queryRange_of_rangeRow (r := .r2) rfl s,
    queryRange_of_rangeRow (r := .r3) rfl s, queryRange_of_rangeRow (r := .r4) rfl s,
    queryRange_of_rangeRow (r := .r5) rfl s⟩

/-! ### Completion -/

/-- R89: no instruction faults, since there is no reason for a fault (log entry 9). -/
theorem exec_ne_fault (i : Instr) (s : State) (f : Fault) : exec i s ≠ .fault f := nomatch f

/-- The operation a phase enables completes in that phase and in no other (R75). -/
theorem exec_sequencerInstr_completes_iff {p : Phase} {s : State} :
    (∃ t, exec (sequencerInstr p) s = .next t) ↔ s.ph = p := by
  constructor
  · rintro ⟨t, h⟩
    by_contra hne
    simp [exec_sequencerInstr_of_ne hne] at h
  · rintro rfl
    cases h : s.ph with
    | dis => exact ⟨_, exec_discharge_eq_next.2 ⟨h, rfl⟩⟩
    | chg => exact ⟨_, exec_charge_eq_next.2 ⟨h, rfl⟩⟩
    | wait => exact ⟨_, exec_disarm_eq_next.2 ⟨h, rfl⟩⟩
    | cnv => exact ⟨_, exec_convert_eq_next.2 ⟨h, rfl⟩⟩
    | rng => exact ⟨_, exec_rerange_eq_next.2 ⟨h, rfl⟩⟩

/-- The five sequencer operations are those the five phases enable. -/
theorem exists_phase_of_isSequencerOp {i : Instr} (h : isSequencerOp i = true) : ∃ p, i = sequencerInstr p := by
  cases i with
  | discharge => exact ⟨.dis, rfl⟩
  | charge => exact ⟨.chg, rfl⟩
  | disarm => exact ⟨.wait, rfl⟩
  | convert => exact ⟨.cnv, rfl⟩
  | rerange => exact ⟨.rng, rfl⟩
  | _ => cases h

theorem sequencerInstr_injective {p q : Phase} (h : sequencerInstr p = sequencerInstr q) : p = q := by
  cases p <;> cases q <;> cases h <;> rfl

theorem isSequencerOp_sequencerInstr (p : Phase) : isSequencerOp (sequencerInstr p) = true := by
  cases p <;> rfl

theorem isReservedTag_sequencerInstr (p : Phase) : isReservedTag (sequencerInstr p) = false := by
  cases p <;> rfl

/-- Every instruction that is neither a sequencer operation nor a reserved row completes in every state. -/
theorem exec_completes_of_other {i : Instr} (hseq : isSequencerOp i = false) (hres : isReservedTag i = false)
    (s : State) : ∃ t, exec i s = .next t := by
  cases i with
  | discharge | charge | disarm | convert | rerange => cases hseq
  | reserved9 | reservedAB | reservedCD | reservedE => cases hres
  | _ => exact ⟨_, rfl⟩

/-- What completes: no reserved row, and of the sequencer operations the one of the phase. -/
theorem exec_completes_iff {i : Instr} {s : State} :
    (∃ t, exec i s = .next t) ↔ isReservedTag i = false ∧ ∀ p, i = sequencerInstr p → s.ph = p := by
  cases hseq : isSequencerOp i with
  | true =>
    obtain ⟨p, rfl⟩ := exists_phase_of_isSequencerOp hseq
    rw [exec_sequencerInstr_completes_iff]
    exact ⟨fun h => ⟨isReservedTag_sequencerInstr p, fun q hq => sequencerInstr_injective hq ▸ h⟩, fun h => h.2 p rfl⟩
  | false =>
    have hnone (p : Phase) : i ≠ sequencerInstr p := by
      rintro rfl
      simp [isSequencerOp_sequencerInstr] at hseq
    cases hres : isReservedTag i with
    | true => simp [exec_of_isReservedTag hres]
    | false => simp [exec_completes_of_other hseq hres, hnone]

/-- Settles O31: the five operations, each with the phase that enables it. -/
theorem everythingElseCompletes : Obligations.EverythingElseCompletes := by
  intro i s
  refine ⟨exec_completes_iff.trans (and_congr_right fun _ => ⟨?each, ?all⟩), exec_ne_fault i s⟩
  case each => exact fun h => ⟨h .dis, h .chg, h .wait, h .cnv, h .rng⟩
  case all =>
    rintro ⟨hdis, hchg, hwait, hcnv, hrng⟩ p
    cases p with
    | dis => exact hdis
    | chg => exact hchg
    | wait => exact hwait
    | cnv => exact hcnv
    | rng => exact hrng

end Sys2Proof.Machine
end

section
/-! A whole measurement cycle (spec/30_encoding.md R59, spec/42_measurement.md R75 to R85): the charge window, which
leaves the comparator's count or none as the sample, and then CONVERT and RERANGE. -/

namespace Sys2Proof.Machine

/-! ### The charge window -/

/-- The operations of a cycle up to the close of its charge window. -/
def windowInstrs : Option Count → List Instr
  | some c => [.discharge, .charge, .capture c, .disarm]
  | none => [.discharge, .charge, .disarm]

theorem cycleInstrs_eq (o : Option Count) : cycleInstrs o = windowInstrs o ++ [Instr.convert, Instr.rerange] := by
  cases o <;> rfl

/-- The state s with its charge window open and the sample o taken in it (R77, R78). -/
def inWindow (o : Option Count) (s : State) : State :=
  { s with chg := driveLine Config.params s.range, sample := o, armed := true, ph := .wait }

/-- The state s with that window closed: the sample and the lines stay (R79). -/
def afterWindow (o : Option Count) (s : State) : State :=
  { s with chg := driveLine Config.params s.range, sample := o, armed := false, ph := .cnv }

theorem exec_charge_after_discharge (lines : List ChargeLine) (s : State) :
    exec .charge ((s.setChg lines).setPh .chg) = .next (inWindow none s) := by
  refine exec_charge_eq_next.2 ⟨State.setPh_ph _ _, ?_⟩
  simp only [inWindow, State.setChg, State.setSample, State.setArmed, State.setPh]

theorem runInstrs_discharge_charge {s : State} (h : s.ph = .dis) :
    runInstrs [.discharge, .charge] s = .next (inWindow none s) :=
  runInstrs_cons.2 ⟨_, exec_discharge_eq_next.2 ⟨h, rfl⟩, runInstrs_cons.2
    ⟨_, exec_charge_after_discharge _ s, rfl⟩⟩

theorem exec_capture_inWindow (c : Count) (s : State) :
    exec (.capture c) (inWindow none s) = .next (inWindow (some c) s) :=
  exec_capture_eq_next.2 rfl

theorem exec_disarm_inWindow (o : Option Count) (s : State) :
    exec .disarm (inWindow o s) = .next (afterWindow o s) :=
  exec_disarm_eq_next.2 ⟨rfl, rfl⟩

/-- From the start of the cycle, the window closes with the trip's count as the sample, or without one. -/
theorem runInstrs_windowInstrs (o : Option Count) {s : State} (h : s.ph = .dis) :
    runInstrs (windowInstrs o) s = .next (afterWindow o s) := by
  have hopen := runInstrs_discharge_charge h
  have hclose : runInstrs [.disarm] (inWindow o s) = .next (afterWindow o s) :=
    runInstrs_cons.2 ⟨_, exec_disarm_inWindow o s, rfl⟩
  cases o with
  | none => exact runInstrs_append.2 ⟨_, hopen, hclose⟩
  | some c => exact runInstrs_append.2 ⟨_, hopen, runInstrs_cons.2 ⟨_, exec_capture_inWindow c s, hclose⟩⟩

/-! ### The whole cycle -/

/-- The state that CONVERT and RERANGE leave of one in `P_CNV` (R84, R85). -/
def afterMeasurement (s : State) : State :=
  (((convertSample Config.params s).setSample none).setRange
    (nextRange Config.params (convertSample Config.params s).conv (convertSample Config.params s).range)).setPh .dis

theorem runInstrs_convert_rerange {s : State} (h : s.ph = .cnv) :
    runInstrs [.convert, .rerange] s = .next (afterMeasurement s) :=
  runInstrs_cons.2 ⟨_, exec_convert_eq_next.2 ⟨h, rfl⟩, runInstrs_cons.2
    ⟨_, exec_rerange_eq_next.2 ⟨rfl, rfl⟩, rfl⟩⟩

/-- A cycle completes from its start in any state, whatever count comes (R59, R75). -/
theorem runInstrs_cycleInstrs (o : Option Count) {s : State} (h : s.ph = .dis) :
    runInstrs (cycleInstrs o) s = .next (afterMeasurement (afterWindow o s)) := by
  rw [cycleInstrs_eq]
  exact runInstrs_append.2 ⟨_, runInstrs_windowInstrs o h, runInstrs_convert_rerange rfl⟩

theorem convertSample_of_valid {p : Params} {s : State} {c : Count} (hs : s.sample = some c)
    (hc : validCount p c = true) :
    convertSample p s =
      (bufWrite (readingWord s.range (scale s.range c)) s).setConv (.scaled (scale s.range c)) := by
  simp only [convertSample, hs, hc, if_true]

theorem convertSample_of_none {p : Params} {s : State} (hs : s.sample = none) :
    convertSample p s = s.setConvOpen .noSample := by
  simp only [convertSample, hs]

/-! ### The reading and the range -/

/-- R83: the digits of a reading, read as a number, are the scaled value modulo 1000. -/
theorem digits_eq_mod_1000 (v : Nat) :
    100 * (digitSym (v / 100 % 10)).toNat + 10 * (digitSym (v / 10 % 10)).toNat + (digitSym (v % 10)).toNat =
      v % 1000 := by
  have hdigit (n : Nat) : (digitSym (n % 10)).toNat = n % 10 := toNat_digitSym (Nat.mod_lt n (by decide))
  rw [hdigit, hdigit, hdigit]
  omega

/-- Two range settings at most one apart in their codes. -/
def RangeNear (r q : RangeSetting) : Prop := rangeCode q ≤ rangeCode r + 1 ∧ rangeCode r ≤ rangeCode q + 1

theorem rangeNear_self (r : RangeSetting) : RangeNear r r := ⟨Nat.le_succ _, Nat.le_succ _⟩

theorem rangeNear_down (r : RangeSetting) : RangeNear r (rangeDown r) := by
  cases r <;> exact ⟨by decide, by decide⟩

theorem rangeNear_up (r : RangeSetting) : RangeNear r (rangeUp r) := by
  cases r <;> exact ⟨by decide, by decide⟩

/-- RERANGE moves the range by at most one after a scaled value (R85, R86). -/
theorem rangeNear_nextRange_scaled (p : Params) (v : Nat) (r : RangeSetting) :
    RangeNear r (nextRange p (.scaled v) r) := by
  simp only [nextRange]
  split
  · exact rangeNear_down r
  · split
    · exact rangeNear_up r
    · exact rangeNear_self r

/-- Without a sample the policy decides (R85). -/
theorem rangeCode_nextRange_noSample (p : Params) (rest : BitVec 20) (r : RangeSetting) :
    rangeCode (nextRange p (.noSample rest) r) =
      if p.noSamplePolicy = .stepUp then min 5 (rangeCode r + 1) else rangeCode r := by
  cases h : p.noSamplePolicy with
  | stepUp => simp [nextRange, h, rangeCode_up]
  | hold => simp [nextRange, h]

/-! ### The two outcomes -/

/-- The state a cycle with a valid count leaves: the reading of the range it began with is in the buffer and in
`CONV`. -/
theorem afterMeasurement_of_valid {s : State} {c : Count} (hc : validCount Config.params c = true) :
    afterMeasurement (afterWindow (some c) s) =
      { s with
        buf := Buffer.unpack (readingWord s.range (scale s.range c))
        conv := .scaled (scale s.range c)
        range := nextRange Config.params (.scaled (scale s.range c)) s.range
        chg := driveLine Config.params s.range
        ph := .dis, armed := false, sample := none } := by
  rw [afterMeasurement, convertSample_of_valid rfl hc]
  simp only [afterWindow, bufWrite, State.setBuf, State.setConv, State.setSample, State.setRange, State.setPh]

/-- The state a cycle without a trip leaves: the outcome, the lines and the range are all that is new. -/
theorem afterMeasurement_of_none (s : State) :
    afterMeasurement (afterWindow none s) =
      { s with
        conv := .noSample (Config.convRest s.draws)
        draws := s.draws + 1
        range := nextRange Config.params (.noSample (Config.convRest s.draws)) s.range
        chg := driveLine Config.params s.range
        ph := .dis, armed := false, sample := none } := by
  rw [afterMeasurement, convertSample_of_none rfl]
  simp only [afterWindow, State.setConvOpen, State.setConv, State.setDraws, State.setSample, State.setRange, State.setPh]

/-- Settles O44: the cycle's last state is known field by field. -/
theorem measurementCycleShowsReading : Obligations.MeasurementCycleShowsReading := by
  intro s c hdis hmin hmax
  have hcycle := runInstrs_cycleInstrs (some c) hdis
  rw [afterMeasurement_of_valid (validCount_eq_true.2 ⟨hmin, hmax⟩), unpack_readingWord] at hcycle
  obtain ⟨hup, hdown⟩ := rangeNear_nextRange_scaled Config.params (scale s.range c) s.range
  exact ⟨_, hcycle, digits_eq_mod_1000 _, rfl, rfl, rfl, rfl, rfl, rfl, hup, hdown, rfl, rfl, rfl, rfl⟩

/-- Settles O45: without a sample CONVERT writes no buffer field, and RERANGE follows the policy. -/
theorem cycleWithoutTripFollowsPolicy : Obligations.CycleWithoutTripFollowsPolicy := by
  intro s hdis
  have hcycle := runInstrs_cycleInstrs none hdis
  rw [afterMeasurement_of_none] at hcycle
  exact ⟨_, hcycle, rfl, ⟨_, rfl⟩, rfl, rangeCode_nextRange_noSample _ (Config.convRest s.draws) _⟩

end Sys2Proof.Machine
end

section
/-! The glyph encoder (spec/40_glyph_encoder.md R60 to R64): the glyph table as a list, the rows that query the encoder
port, and who drives the decimal-point line. -/

namespace Sys2Proof.Machine

/-! ### The glyph table -/

/-- The masks of the mapped codes 0x00 to 0x13, in the order of the codes (R61). -/
def glyphTable : List Mask :=
  [0x3F, 0x06, 0x5B, 0x4F, 0x66, 0x6D, 0x7D, 0x07, 0x7F, 0x6F,
    0x77, 0x7C, 0x39, 0x5E, 0x79, 0x71, 0x73, 0x54, 0x1C, 0x40]

/-- The encoder reads its mask from the table, at the dash's mask for a code past its end (R61). -/
theorem glyphMask_eq_getD : ∀ c : Sym, glyphMask c = glyphTable.getD c.toNat 0x40 := by decide

theorem length_glyphTable : glyphTable.length = 0x14 := rfl

/-- No mask stands twice in the table (R63). -/
theorem nodup_glyphTable : glyphTable.Nodup := by decide

theorem glyphMask_of_unmapped {c : Sym} (h : 0x14 ≤ c.toNat) : glyphMask c = 0x40 := by
  rw [glyphMask_eq_getD]
  exact List.getD_eq_default _ _ (length_glyphTable ▸ h)

theorem glyphMask_of_mapped {c : Sym} (h : c.toNat < glyphTable.length) : glyphMask c = glyphTable[c.toNat] := by
  rw [glyphMask_eq_getD]
  exact List.getD_eq_getElem _ _ h

/-- Two mapped codes with the same mask are the same place of the table, so the same code. -/
theorem glyphMask_injOn_mapped {c d : Sym} (hc : c.toNat ≤ 0x13) (hd : d.toNat ≤ 0x13)
    (h : glyphMask c = glyphMask d) : c = d := by
  have hc : c.toNat < glyphTable.length := Nat.lt_succ_of_le hc
  have hd : d.toNat < glyphTable.length := Nat.lt_succ_of_le hd
  rw [glyphMask_of_mapped hc, glyphMask_of_mapped hd] at h
  exact BitVec.eq_of_toNat_eq (nodup_glyphTable.getElem_inj_iff.1 h)

/-- Settles O9: an unmapped code has the mask of the dash, which no other mapped code has. -/
theorem mappedGlyphsAreOneToOne : Obligations.MappedGlyphsAreOneToOne := by
  refine ⟨fun c d => glyphMask_injOn_mapped, fun c d hc hd => ?unmapped⟩
  have hdash : glyphMask c = glyphMask 0x13 := glyphMask_of_unmapped hc
  constructor
  · exact fun h => glyphMask_injOn_mapped hd (Nat.le_refl _) (h.symm.trans hdash)
  · rintro rfl
    exact hdash

/-! ### Queries of the encoder port -/

theorem queryEncoder_of_glyphMask {c : Sym} {m : Mask} (h : glyphMask c = m) (s : State) :
    queryEncoder c s = .next { s with answer := .mask m } := h ▸ rfl

theorem exec_enc (c : Sym) (s : State) : exec (.enc c) s = queryEncoder c s := rfl

/-- Settles O8: ENC is a query, and the encoder reads its mask from the table. -/
theorem encReturnsTableMask : Obligations.EncReturnsTableMask := fun c s =>
  queryEncoder_of_glyphMask (glyphMask_eq_getD c) s

/-- Every row whose word is a symbol code is a query with that code (R47, log entry 6). -/
theorem exec_of_encode_eq_sym {i : Instr} {c : Sym} (h : encode i = .sym c) (s : State) :
    exec i s = queryEncoder c s := by
  cases i with
  | sym0 | sym1 | sym2 | sym3 | sym4 | sym5 | sym6 | sym7 | sym8 | sym9
  | symA | symB | symC | symD | symE | symF | symP | symN | symU | symDash
  | symUnmapped14 | symUnmapped18 =>
    cases h
    rfl
  | _ => cases h

theorem exec_of_encode_eq_sym_unmapped {i : Instr} {c : Sym} (h : encode i = .sym c) (hc : 0x14 ≤ c.toNat) (s : State) :
    exec i s = .next { s with answer := .mask 0x40 } :=
  (exec_of_encode_eq_sym h s).trans (queryEncoder_of_glyphMask (glyphMask_of_unmapped hc) s)

/-- Settles O11: each row of the list has a symbol code for its word and that code's mask beside it. -/
theorem symbolRowsReturnTheirMask : Obligations.SymbolRowsReturnTheirMask := by
  intro s
  refine ⟨?mapped, ?unmapped14, ?unmapped18⟩
  case mapped =>
    intro row hrow
    obtain ⟨c, hcode, hmask⟩ : ∃ c, encode row.1 = .sym c ∧ glyphMask c = row.2 := by
      revert row
      decide
    exact (exec_of_encode_eq_sym hcode s).trans (queryEncoder_of_glyphMask hmask s)
  case unmapped14 => exact fun c hlow _ => exec_of_encode_eq_sym_unmapped (i := .symUnmapped14 c) rfl hlow s
  case unmapped18 =>
    exact fun c hlow => exec_of_encode_eq_sym_unmapped (i := .symUnmapped18 c) rfl (Nat.le_trans (by decide) hlow) s

/-! ### The decimal-point line -/

/-- TICK lights the decimal point exactly if the buffer's index is that of the digit selected (R69). -/
theorem afterTick_dpl_eq_true (s : State) :
    (afterTick s).dpl = true ↔ s.buf.dp.toNat = (afterTick s).dig.toNat := by
  have hdpl : (afterTick s).dpl = ((s.dig + 1).setWidth 3 == s.buf.dp) := rfl
  have hdig : (afterTick s).dig = s.dig + 1 := rfl
  rw [hdpl, hdig, beq_iff_eq, eq_comm, BitVec.toNat_eq, BitVec.toNat_setWidth_of_le (by decide)]

/-- Settles O10: the masks have no bit for the point, TICK compares the index with the digit, and a query writes the
answer only. -/
theorem encoderNeverDrivesDecimalPoint : Obligations.EncoderNeverDrivesDecimalPoint :=
  ⟨glyphMask_dp, fun s => ⟨afterTick s, exec_tick s, afterTick_dpl_eq_true s⟩,
    fun c s => ⟨_, exec_enc c s, State.setAnswer_dpl s _⟩⟩

end Sys2Proof.Machine
end

section
/-! The refresh multiplexer (spec/41_refresh.md): what TICK puts on the display lines (R67, R69), the pins (R74), and the
frame of those lines over every other operation (R72). -/

namespace Sys2Proof.Machine

/-! ### The digit TICK selects -/

/-- The digit index runs through 0 to 3 and wraps (R21). -/
theorem toNat_digit_succ (d : Digit) : (d + 1).toNat = (d.toNat + 1) % 4 := BitVec.toNat_add d 1

theorem onehot4_eq_ofNat : ∀ d : Digit, onehot4 d = BitVec.ofNat 4 (2 ^ d.toNat) := by decide

/-- The bits of a one-hot value (R12). -/
theorem onehot4_getElem_eq_true (d : Digit) (i : Fin 4) : (onehot4 d)[i] = true ↔ i.val = d.toNat := by
  have hbit : (onehot4 d)[i] = decide (i.val = d.toNat) := BitVec.getElem_twoPow i.isLt
  rw [hbit, decide_eq_true_iff]

/-- The entry of each digit index, position by position (R19). -/
theorem Buffer.glyph_cases (b : Buffer) (d : Digit) :
    (d.toNat = 0 → b.glyph d = b.g0) ∧ (d.toNat = 1 → b.glyph d = b.g1) ∧
    (d.toNat = 2 → b.glyph d = b.g2) ∧ (d.toNat = 3 → b.glyph d = b.g3) := by
  refine ⟨?_, ?_, ?_, ?_⟩ <;> intro h <;> simp only [Buffer.glyph, h]

/-! ### The lines after a TICK -/

theorem afterTick_sel (s : State) : (afterTick s).sel = onehot4 (afterTick s).dig := rfl

theorem afterTick_seg (s : State) :
    (afterTick s).seg = (glyphMask (s.buf.glyph (afterTick s).dig)).extractLsb' 0 7 := rfl

/-- A segment is lit exactly if the glyph of the digit selected lights it (R48, R67). -/
theorem afterTick_seg_getElem (s : State) (i : Fin 7) :
    (afterTick s).seg[i] = (glyphMask (s.buf.glyph (afterTick s).dig)).getLsbD i.val := by
  rw [afterTick_seg, Fin.getElem_fin, BitVec.getElem_extractLsb', Nat.zero_add]

/-- Settles O15: the digit is the next one modulo 4, and each line's bits are the same written in arithmetic. -/
theorem tickDrivesNextDigit : Obligations.TickDrivesNextDigit := by
  intro s
  obtain ⟨h0, h1, h2, h3⟩ := s.buf.glyph_cases (s.dig + 1)
  refine ⟨s.dig + 1, s.buf.glyph (s.dig + 1), toNat_digit_succ s.dig, h0, h1, h2, h3, ?_⟩
  have hdpl : (afterTick s).dpl = (s.buf.dp.toNat == (s.dig + 1).toNat) :=
    Bool.eq_iff_iff.2 ((afterTick_dpl_eq_true s).trans beq_iff_eq.symm)
  have hseg : (afterTick s).seg = BitVec.ofNat 7 (glyphMask (s.buf.glyph (s.dig + 1))).toNat := rfl
  rw [exec_tick, ← hdpl, ← hseg, ← onehot4_eq_ofNat]
  rfl

/-- Settles O16: TICK compares the index with the digit, which is below 4, and selects that digit only. -/
theorem decimalPointLitIffIndexIsDigit : Obligations.DecimalPointLitIffIndexIsDigit := by
  intro s
  refine ⟨afterTick s, exec_tick s, (afterTick_dpl_eq_true s).trans eq_comm, ?none, ?one⟩
  case none =>
    intro hdp
    have hdig := (afterTick s).dig.isLt
    rw [← Bool.not_eq_true, afterTick_dpl_eq_true]
    omega
  case one =>
    rintro i j ⟨hi, -⟩ ⟨hj, -⟩
    rw [afterTick_sel, onehot4_getElem_eq_true] at hi hj
    exact Fin.ext (hi.trans hj.symm)

/-! ### The pins -/

/-- A pin is its line, inverted if its polarity is active low (R74). -/
theorem xor_polarity (line low : Bool) : (line ^^ low) = if low then !line else line := by
  cases low
  · exact Bool.xor_false line
  · exact Bool.xor_true line

/-- A pin is at its active level exactly if its line is set, under either polarity (R74). -/
theorem xor_polarity_eq_active {line low : Bool} : (line ^^ low) = !low ↔ line = true := by
  cases low
  · rw [Bool.xor_false, Bool.not_false]
  · rw [Bool.xor_true, Bool.not_true, Bool.not_eq_false']

/-- Settles O52: the three kinds of pin differ in the line and the parameter only. -/
theorem pinLevelsFollowPolarity : Obligations.PinLevelsFollowPolarity := fun p s =>
  ⟨fun i => xor_polarity s.seg[i] p.segActiveLow, xor_polarity s.dpl p.segActiveLow,
    fun i => xor_polarity s.sel[i] p.selActiveLow⟩

/-- Settles O18: a select pin is active exactly if its line is set, and the lines are one-hot at `DIG`. -/
theorem tickSelectsExactlyOneDigitPin : Obligations.TickSelectsExactlyOneDigitPin := fun s =>
  ⟨afterTick s, exec_tick s, fun _ i => xor_polarity_eq_active.trans (onehot4_getElem_eq_true (afterTick s).dig i)⟩

/-- Settles O53: a pin is active exactly if its line is set, and TICK drives the lines from the digit it selects. -/
theorem tickDrivesSegmentAndPointPins : Obligations.TickDrivesSegmentAndPointPins := by
  intro s
  obtain ⟨h0, h1, h2, h3⟩ := s.buf.glyph_cases (afterTick s).dig
  refine ⟨afterTick s, s.buf.glyph (afterTick s).dig, exec_tick s, h0, h1, h2, h3, fun p => ⟨fun i => ?segment, ?point⟩⟩
  case segment =>
    rw [← afterTick_seg_getElem]
    exact xor_polarity_eq_active
  case point => exact xor_polarity_eq_active.trans (afterTick_dpl_eq_true s)

/-! ### The other operations -/

/-- R72: no operation but TICK and RESET writes the output register or the digit index. -/
theorem exec_keeps_display {i : Instr} {s t : State} (htick : i ≠ .tick) (hreset : i ≠ .reset)
    (h : exec i s = .next t) : t.seg = s.seg ∧ t.dpl = s.dpl ∧ t.sel = s.sel ∧ t.dig = s.dig := by
  cases i with
  | tick => exact absurd rfl htick
  | reset => exact absurd rfl hreset
  | discharge => obtain ⟨-, rfl⟩ := exec_discharge_eq_next.1 h; exact ⟨rfl, rfl, rfl, rfl⟩
  | charge => obtain ⟨-, rfl⟩ := exec_charge_eq_next.1 h; exact ⟨rfl, rfl, rfl, rfl⟩
  | disarm => obtain ⟨-, rfl⟩ := exec_disarm_eq_next.1 h; exact ⟨rfl, rfl, rfl, rfl⟩
  | rerange => obtain ⟨-, rfl⟩ := exec_rerange_eq_next.1 h; exact ⟨rfl, rfl, rfl, rfl⟩
  | convert =>
    obtain ⟨-, rfl⟩ := exec_convert_eq_next.1 h
    rw [convertSample_frame]
    exact ⟨rfl, rfl, rfl, rfl⟩
  | capture c =>
    rw [exec_capture_eq_next.1 h]
    split <;> exact ⟨rfl, rfl, rfl, rfl⟩
  | reserved9 | reservedAB | reservedCD | reservedE => cases h
  | _ =>
    cases h
    exact ⟨rfl, rfl, rfl, rfl⟩

/-- Settles O32: the frame of the display lines over one operation. -/
theorem onlyTickAndResetDriveDisplay : Obligations.OnlyTickAndResetDriveDisplay :=
  fun _ _ _ h htick hreset => exec_keeps_display htick hreset h

end Sys2Proof.Machine
end

section
/-! The rotation of the digits (spec/41_refresh.md R67, R71) and the dashes until the first reading
(spec/70_reset_and_hazards.md R107, R108): one step of each, and the rotation along a run. -/

namespace Sys2Proof.Machine

/-! ### The rotation -/

/-- Settles O50: TICK selects the next digit, and no operation but TICK and RESET changes which digit that is. -/
theorem eachStepKeepsTheRotation : Obligations.EachStepKeepsTheRotation := by
  intro i s t h
  refine ⟨?reset, ?tick, ?other⟩
  case reset =>
    rintro rfl
    cases h
    exact ⟨rfl, rfl⟩
  case tick =>
    rintro rfl
    cases h
    exact ⟨toNat_digit_succ s.dig, onehot4_eq_ofNat (s.dig + 1)⟩
  case other =>
    intro hreset htick
    obtain ⟨-, -, hsel, hdig⟩ := exec_keeps_display htick hreset h
    exact ⟨hdig, hsel⟩

theorem isTick_eq_true {i : Instr} : isTick i = true ↔ i = .tick := by
  cases i with
  | tick => exact iff_of_true rfl rfl
  | _ => exact iff_of_false nofun nofun

/-- R71: along a run without RESET the digit index counts the TICKs modulo 4. -/
theorem runInstrs_dig {l : List Instr} {s t : State} (hreset : Instr.reset ∉ l) (h : runInstrs l s = .next t) :
    t.dig.toNat = (s.dig.toNat + l.countP isTick) % 4 := by
  induction l generalizing s with
  | nil =>
    cases h
    exact (Nat.mod_eq_of_lt t.dig.isLt).symm
  | cons i l ih =>
    obtain ⟨u, hu, ht⟩ := runInstrs_cons.1 h
    rw [List.mem_cons, not_or] at hreset
    obtain ⟨hi, hl⟩ := hreset
    obtain ⟨-, htick, hother⟩ := eachStepKeepsTheRotation i s u hu
    rw [ih hl ht]
    by_cases hit : i = .tick
    · obtain ⟨hdig, -⟩ := htick hit
      rw [hit, hdig, List.countP_cons_of_pos rfl]
      omega
    · obtain ⟨hdig, -⟩ := hother (Ne.symm hi) hit
      rw [hdig, List.countP_cons_of_neg (mt isTick_eq_true.1 hit)]

/-- Settles O41: RESET leaves the index at 3, so the TICKs counted from there and one more give the count modulo 4. -/
theorem kthTickSelectsDigitKMinusOneMod4 : Obligations.KthTickSelectsDigitKMinusOneMod4 := by
  intro l s t hl h
  obtain ⟨v, hv, ht⟩ := runInstrs_append.1 h
  obtain ⟨u, hu, hv⟩ := runInstrs_cons.1 hv
  obtain ⟨_, hw, ⟨⟩⟩ := runInstrs_cons.1 ht
  obtain ⟨hstart, -, -⟩ := eachStepKeepsTheRotation _ _ _ hu
  obtain ⟨-, hlast, -⟩ := eachStepKeepsTheRotation _ _ _ hw
  obtain ⟨hthree, -⟩ := hstart rfl
  obtain ⟨hdig, hsel⟩ := hlast rfl
  have hcount : t.dig.toNat = l.countP isTick % 4 := by
    rw [hdig, runInstrs_dig hl hv, hthree]
    omega
  exact ⟨hcount, hcount ▸ hsel⟩

/-! ### The dashes -/

/-- RESET's buffer shows `'-'` at every digit (R31). -/
theorem glyph_dashes : ∀ d : Digit, dashes.glyph d = 0x13 := by decide

/-- With RESET's buffer a TICK shows `'-'`, and its index, NONE, is no digit's (R108). -/
theorem afterTick_of_dashes {s : State} (h : s.buf = dashes) : (afterTick s).seg = 0x40 ∧ (afterTick s).dpl = false := by
  constructor
  · rw [afterTick_seg, h, glyph_dashes]
    rfl
  · have hdig := (afterTick s).dig.isLt
    have hdp : s.buf.dp.toNat = 7 := h ▸ rfl
    rw [← Bool.not_eq_true, afterTick_dpl_eq_true]
    omega

/-- The only writes that replace the dashes are a WRBUF and a reading (R84, R108). -/
theorem BufWrite.eq_dashes {i : Instr} {s : State} {f : Buffer} (h : BufWrite i s f) (hwrbuf : ∀ b, i ≠ .wrbuf b)
    (hconvert : i = .convert → ∀ c, s.sample = some c →
      c.toNat < Config.params.sampleMin ∨ Config.params.sampleMax < c.toNat) : f = dashes := by
  cases h with
  | wrbuf w => exact absurd rfl (hwrbuf w)
  | reset => rfl
  | reading hsample hvalid =>
    have hinvalid := validCount_eq_false.2 (hconvert rfl _ hsample)
    exact absurd hvalid (Bool.eq_false_iff.1 hinvalid)

/-- Settles O51: an operation either leaves the buffer or writes it, and of the writes only RESET's is left. -/
theorem eachStepKeepsTheDashes : Obligations.EachStepKeepsTheDashes := by
  intro i s t h
  refine ⟨?reset, fun hs => ⟨fun hwrbuf hconvert => ?kept, ?tick⟩⟩
  case reset =>
    rintro rfl
    cases h
    rfl
  case kept =>
    rcases exec_buf_cases h with hwrite | ⟨hbuf, -⟩
    · exact hwrite.eq_dashes hwrbuf hconvert
    · exact hbuf.trans hs
  case tick =>
    rintro rfl
    cases h
    exact afterTick_of_dashes hs

end Sys2Proof.Machine
end

section
/-! The invariant of the machine (spec/41_refresh.md R70, spec/10_state.md R24, R25, R27, R28,
spec/70_reset_and_hazards.md R113): every operation keeps it, and so does every step. -/

namespace Sys2Proof.Machine

variable {s t : State}

/-! ### Outside the charge window -/

/-- Outside the charge window capture is disabled (R25). -/
theorem Inv.not_armed (h : Inv s) (hp : s.ph ≠ .wait) : ¬ s.armed = true := mt h.armed.1 hp

/-- Before the charge window and after CONVERT no sample is held (R113). -/
theorem Inv.sample_eq_none (h : Inv s) (hwait : s.ph ≠ .wait) (hcnv : s.ph ≠ .cnv) : s.sample = none :=
  Classical.not_not.1 fun hs => (h.sample hs).elim hwait hcnv

/-! ### The sequencer's operations -/

theorem Inv.discharge (h : Inv s) (hp : s.ph = .dis) : Inv ((s.setChg (allLow Config.params)).setPh .chg) where
  select := h.select
  conv := h.conv
  armed := iff_of_false (h.not_armed (hp ▸ nofun)) nofun
  sample := fun hs => absurd (h.sample_eq_none (hp ▸ nofun) (hp ▸ nofun)) hs
  lines := ⟨length_allLow _, fun _ _ hk => allLow_get hk, by rintro (h | h | h) <;> cases h⟩

theorem Inv.charge (h : Inv s) :
    Inv ((((s.setChg (driveLine Config.params s.range)).setSample none).setArmed true).setPh .wait) where
  select := h.select
  conv := h.conv
  armed := iff_of_true rfl rfl
  sample := fun _ => .inl rfl
  lines := ⟨length_driveLine _ _, nofun, fun _ _ hk => driveLine_get hk⟩

/-- The lines stay as CHARGE drove them (R79). -/
theorem Inv.disarm (h : Inv s) (hp : s.ph = .wait) : Inv ((s.setArmed false).setPh .cnv) := by
  obtain ⟨hlength, -, hdriven⟩ := h.lines
  exact ⟨h.select, h.conv, iff_of_false nofun nofun, fun _ => .inr rfl, hlength, nofun, fun _ => hdriven (.inl hp)⟩

/-- A scaled value is at most 655350, so it fits its 20 bits (R10). -/
theorem ConvOk.convertSample (p : Params) (s : State) : ConvOk (convertSample p s) := by
  rcases convertSample_cases p s with ⟨-, he⟩ | ⟨c, -, -, he⟩ | ⟨c, -, -, he⟩ <;> rw [he]
  · nofun
  · nofun
  · rintro v ⟨⟩
    exact Nat.lt_of_le_of_lt (scale_le s.range c) (by decide)

/-- CONVERT consumes the sample and leaves the lines (R84). -/
theorem Inv.convert (h : Inv s) (hp : s.ph = .cnv) :
    Inv (((convertSample Config.params s).setSample none).setPh .rng) := by
  have hconv := ConvOk.convertSample Config.params s
  obtain ⟨hlength, -, hdriven⟩ := h.lines
  rw [convertSample_frame]
  exact ⟨h.select, hconv, iff_of_false (h.not_armed (hp ▸ nofun)) nofun, fun hs => absurd rfl hs, hlength, nofun,
    fun _ => hdriven (.inr (.inl hp))⟩

/-- In `P_DIS` no line is asked for, so the range may change (R85). -/
theorem Inv.rerange (h : Inv s) (hp : s.ph = .rng) (r : RangeSetting) : Inv ((s.setRange r).setPh .dis) := by
  obtain ⟨hlength, -, -⟩ := h.lines
  refine ⟨h.select, h.conv, iff_of_false (h.not_armed (hp ▸ nofun)) nofun, ?_, hlength, nofun, ?_⟩
  · exact fun hs => absurd (h.sample_eq_none (hp ▸ nofun) (hp ▸ nofun)) hs
  · rintro (h | h | h) <;> cases h

/-! ### The agents beside it -/

/-- A trip is recorded only in the charge window (R78). -/
theorem Inv.capture (h : Inv s) (c : Count) : Inv (if s.acceptsTrip then s.setSample (some c) else s) := by
  split
  next haccepts =>
    have harmed : s.armed = true := (Bool.and_eq_true_iff.1 haccepts).1
    exact ⟨h.select, h.conv, h.armed, fun _ => .inl (h.armed.1 harmed), h.lines⟩
  next => exact h

theorem Inv.afterTick (h : Inv s) : Inv (afterTick s) :=
  ⟨.inr rfl, h.conv, h.armed, h.sample, h.lines⟩

/-! ### Every operation and every step -/

/-- No clause speaks of the buffer or of the model's own fields, so the queries and WRBUF keep the invariant as it is. -/
theorem exec_keeps_inv {i : Instr} (hs : Inv s) (h : exec i s = .next t) : Inv t := by
  cases i with
  | tick => cases h; exact hs.afterTick
  | reset => cases h; exact inv_resetElements s
  | discharge => obtain ⟨hp, rfl⟩ := exec_discharge_eq_next.1 h; exact hs.discharge hp
  | charge => obtain ⟨-, rfl⟩ := exec_charge_eq_next.1 h; exact hs.charge
  | disarm => obtain ⟨hp, rfl⟩ := exec_disarm_eq_next.1 h; exact hs.disarm hp
  | convert => obtain ⟨hp, rfl⟩ := exec_convert_eq_next.1 h; exact hs.convert hp
  | rerange => obtain ⟨hp, rfl⟩ := exec_rerange_eq_next.1 h; exact hs.rerange hp _
  | capture c => exact exec_capture_eq_next.1 h ▸ hs.capture c
  | reserved9 | reservedAB | reservedCD | reservedE => cases h
  | _ =>
    cases h
    exact ⟨hs.select, hs.conv, hs.armed, hs.sample, hs.lines⟩

theorem Inv.setInputs (h : Inv s) (ws : List FormatWord) : Inv (s.setInputs ws) :=
  ⟨h.select, h.conv, h.armed, h.sample, h.lines⟩

theorem Inv.setTurns (h : Inv s) (n : Nat) : Inv (s.setTurns n) :=
  ⟨h.select, h.conv, h.armed, h.sample, h.lines⟩

/-- Settles O39: a step takes a word or a turn, which no clause speaks of, and performs one operation. -/
theorem stepKeepsInvariant : Obligations.StepKeepsInvariant := by
  intro s t hs h
  rcases step_eq_next h with ⟨_, rest, _, -, -, he⟩ | ⟨-, he⟩
  · exact exec_keeps_inv (hs.setInputs rest) he
  · exact exec_keeps_inv (hs.setTurns (s.turns + 1)) he

end Sys2Proof.Machine
end

section
/-! The sequencer's operations and CAPTURE, each in the state that enables it (spec/42_measurement.md R75 to R79), and what
the interrupts leave (spec/60_exceptions.md R94). -/

namespace Sys2Proof.Machine

/-! ### The cycle of the phases -/

/-- A sequencer operation that completes was in its phase and sets the next one (R75). -/
theorem exec_sequencerInstr_ph {p : Phase} {s t : State} (h : exec (sequencerInstr p) s = .next t) :
    s.ph = p ∧ t.ph = p.succ := by
  cases p with
  | dis => obtain ⟨hp, rfl⟩ := exec_discharge_eq_next.1 h; exact ⟨hp, rfl⟩
  | chg => obtain ⟨hp, rfl⟩ := exec_charge_eq_next.1 h; exact ⟨hp, rfl⟩
  | wait => obtain ⟨hp, rfl⟩ := exec_disarm_eq_next.1 h; exact ⟨hp, rfl⟩
  | cnv => obtain ⟨hp, rfl⟩ := exec_convert_eq_next.1 h; exact ⟨hp, rfl⟩
  | rng => obtain ⟨hp, rfl⟩ := exec_rerange_eq_next.1 h; exact ⟨hp, rfl⟩

/-- Settles O29: each row of the table is a phase's operation, that phase, and its successor. -/
theorem sequencerOperationsFollowTheCycle : Obligations.SequencerOperationsFollowTheCycle := by
  intro row hrow s
  have hmap : row ∈ [Phase.dis, .chg, .wait, .cnv, .rng].map fun p => (sequencerInstr p, p, p.succ) := hrow
  obtain ⟨p, -, rfl⟩ := List.mem_map.1 hmap
  refine ⟨fun hp => ?completes, exec_sequencerInstr_of_ne⟩
  case completes =>
    obtain ⟨t, ht⟩ := exec_sequencerInstr_completes_iff.2 hp
    obtain ⟨-, hsucc⟩ := exec_sequencerInstr_ph ht
    exact ⟨t, ht, hsucc⟩

/-! ### The charge window -/

/-- Settles O19: the lines are `allLow`, and the new phase is all else that is new. -/
theorem dischargeDrivesEveryLineLow : Obligations.DischargeDrivesEveryLineLow := fun _ hdis =>
  ⟨allLow Config.params, length_allLow _, fun _ hk => allLow_get hk, exec_discharge_eq_next.2 ⟨hdis, rfl⟩⟩

/-- Settles O20: the lines are `driveLine` at the range, and its line is one of them in every legal configuration. -/
theorem chargeDrivesLineOfRange : Obligations.ChargeDrivesLineOfRange := fun s hchg =>
  ⟨driveLine Config.params s.range, length_driveLine _ _, fun _ hk => driveLine_get hk,
    Config.params_legal.resOfRange_lt s.range, exec_charge_eq_next.2 ⟨hchg, rfl⟩⟩

/-- Settles O22: the sample and the lines are not among the elements DISARM writes. -/
theorem disarmClosesWindow : Obligations.DisarmClosesWindow := fun _ hwait =>
  exec_disarm_eq_next.2 ⟨hwait, rfl⟩

/-! ### The interrupts -/

theorem acceptsTrip_eq_true {s : State} : s.acceptsTrip = true ↔ s.armed = true ∧ s.sample = none := by
  simp [State.acceptsTrip, State.sampleValid]

theorem exec_capture_of_accepts {s : State} (h : s.acceptsTrip = true) (c : Count) :
    exec (.capture c) s = .next (s.setSample (some c)) :=
  exec_capture_eq_next.2 (if_pos h).symm

theorem exec_capture_of_not_accepts {s : State} (h : ¬ s.acceptsTrip = true) (c : Count) :
    exec (.capture c) s = .next s :=
  exec_capture_eq_next.2 (if_neg h).symm

/-- Settles O21: a trip is accepted exactly when capture is armed and no sample is held. -/
theorem captureRecordsOnlyFirstArmedTrip : Obligations.CaptureRecordsOnlyFirstArmedTrip := by
  intro c s
  refine ⟨fun harmed hnone => ?recorded, fun hclosed => ?ignored⟩
  case recorded => exact exec_capture_of_accepts (acceptsTrip_eq_true.2 ⟨harmed, hnone⟩) c
  case ignored =>
    refine exec_capture_of_not_accepts (fun haccepts => ?_) c
    obtain ⟨harmed, hnone⟩ := acceptsTrip_eq_true.1 haccepts
    rcases hclosed with hoff | hheld
    · simp [harmed] at hoff
    · exact hheld hnone

/-- Settles O35: TICK writes by `setDisplay` only, and CAPTURE by `setSample` or not at all. -/
theorem interruptsKeepTheSequencer : Obligations.InterruptsKeepTheSequencer := by
  intro s c
  refine ⟨⟨afterTick s, exec_tick s, rfl⟩, ?capture⟩
  case capture =>
    by_cases haccepts : s.acceptsTrip = true
    · exact ⟨_, exec_capture_of_accepts haccepts c, rfl⟩
    · exact ⟨_, exec_capture_of_not_accepts haccepts c, rfl⟩

end Sys2Proof.Machine
end

section
/-! CONVERT (spec/42_measurement.md R80 to R84): its whole next state in each of the three cases of the sample, and what a
scaled value says of the buffer beside it. -/

namespace Sys2Proof.Machine

/-! ### The three cases -/

theorem convertSample_of_invalid {p : Params} {s : State} {c : Count} (hs : s.sample = some c)
    (hc : validCount p c = false) : convertSample p s = s.setConvOpen .rejected := by
  simp [convertSample, hs, hc]

theorem exec_convert_of_none {s : State} (hp : s.ph = .cnv) (hs : s.sample = none) :
    exec .convert s = .next (((s.setConvOpen .noSample).setSample none).setPh .rng) :=
  exec_convert_eq_next.2 ⟨hp, by rw [convertSample_of_none hs]⟩

theorem exec_convert_of_invalid {s : State} {c : Count} (hp : s.ph = .cnv) (hs : s.sample = some c)
    (hc : validCount Config.params c = false) :
    exec .convert s = .next (((s.setConvOpen .rejected).setSample none).setPh .rng) :=
  exec_convert_eq_next.2 ⟨hp, by rw [convertSample_of_invalid hs hc]⟩

/-- The buffer that the reading of a count at a range puts up (R83, R84). -/
def readingBuffer (r : RangeSetting) (c : Count) : Buffer := Buffer.unpack (readingWord r (scale r c))

theorem exec_convert_of_valid {s : State} {c : Count} (hp : s.ph = .cnv) (hs : s.sample = some c)
    (hc : validCount Config.params c = true) :
    exec .convert s =
      .next ((((s.setBuf (readingBuffer s.range c)).setConv (.scaled (scale s.range c))).setSample none).setPh .rng) :=
  exec_convert_eq_next.2 ⟨hp, by rw [convertSample_of_valid hs hc]; rfl⟩

/-- A CONVERT that leaves a scaled value found a valid sample, and put its reading into the buffer (R84). -/
theorem exec_convert_scaled {s t : State} {v : Nat} (h : exec .convert s = .next t) (hv : t.conv = .scaled v) :
    ∃ c, s.sample = some c ∧ validCount Config.params c = true ∧ v = scale s.range c ∧
      t.buf = readingBuffer s.range c := by
  obtain ⟨-, rfl⟩ := exec_convert_eq_next.1 h
  rcases convertSample_cases Config.params s with ⟨-, he⟩ | ⟨c, -, -, he⟩ | ⟨c, hs, hc, he⟩ <;> rw [he] at hv ⊢
  · cases hv
  · cases hv
  · cases hv
    exact ⟨c, hs, hc, rfl, rfl⟩

/-- Settles O23: without a valid sample CONVERT writes the outcome with the next free value. -/
theorem convertWithoutReading : Obligations.ConvertWithoutReading := by
  intro s hp
  refine ⟨fun hnone => ?noSample, fun c hc hinvalid => ?rejected⟩
  case noSample =>
    refine ⟨Config.convRest s.draws, (exec_convert_of_none hp hnone).trans (congrArg _ ?_)⟩
    simp only [State.setConvOpen, State.setConv, State.setDraws, State.setSample, State.setPh, hnone]
  case rejected =>
    exact ⟨Config.convRest s.draws, exec_convert_of_invalid hp hc (validCount_eq_false.2 hinvalid)⟩

/-- No legal configuration admits the count 0 or 60000 (R9, R80). -/
theorem validCount_eq_false_of_zero_or_60000 {p : Params} (hp : p.Legal) {c : Count} (hc : c = 0 ∨ c = 60000) :
    validCount p c = false := by
  have hmin := hp.one_le_sampleMin
  have hmax := hp.sampleMax_le
  rw [validCount_eq_false]
  rcases hc with rfl | rfl
  · exact .inl hmin
  · exact .inr (Nat.lt_succ_of_le hmax)

/-- Settles O27: both counts are invalid in every legal configuration, and an invalid count writes no buffer. -/
theorem countsZeroAnd60000AreRejected : Obligations.CountsZeroAnd60000AreRejected := by
  intro s hp hsample
  obtain ⟨c, hs, hc⟩ : ∃ c, s.sample = some c ∧ (c = 0 ∨ c = 60000) := by
    rcases hsample with hs | hs
    · exact ⟨_, hs, .inl rfl⟩
    · exact ⟨_, hs, .inr rfl⟩
  exact ⟨_, exec_convert_of_invalid hp hs (validCount_eq_false_of_zero_or_60000 Config.params_legal hc), ⟨_, rfl⟩, rfl⟩

/-! ### The reading -/

theorem readingBuffer_eq (r : RangeSetting) (c : Count) :
    readingBuffer r c =
      ⟨digitSym (scale r c / 100 % 10), digitSym (scale r c / 10 % 10), digitSym (scale r c % 10), (rangeRow r).unit,
        (rangeRow r).dp⟩ :=
  unpack_readingWord r (scale r c)

theorem readingBuffer_unit (r : RangeSetting) (c : Count) : (readingBuffer r c).g3 = (rangeRow r).unit := by
  rw [readingBuffer_eq]

theorem readingBuffer_dp (r : RangeSetting) (c : Count) : (readingBuffer r c).dp = (rangeRow r).dp := by
  rw [readingBuffer_eq]

/-- Positions 0 to 2 of a reading are its hundreds, tens and ones (R83). -/
theorem readingBuffer_digits (r : RangeSetting) (c : Count) :
    (readingBuffer r c).g0.toNat = scale r c / 100 % 10 ∧ (readingBuffer r c).g1.toNat = scale r c / 10 % 10 ∧
      (readingBuffer r c).g2.toNat = scale r c % 10 := by
  have hdigit (n : Nat) : (digitSym (n % 10)).toNat = n % 10 := toNat_digitSym (Nat.mod_lt n (by decide))
  rw [readingBuffer_eq]
  exact ⟨hdigit _, hdigit _, hdigit _⟩

/-- Settles O24: the rows of the range table are the cases of R81 and R82. -/
theorem convertShowsReading : Obligations.ConvertShowsReading := by
  intro s c hp hs hmin hmax v
  have hv : v = scale s.range c := by
    simp only [v]
    cases s.range <;> simp [scale, rangeRow]
  obtain ⟨hhundreds, htens, hones⟩ := readingBuffer_digits s.range c
  rw [hv]
  refine ⟨readingBuffer s.range c, hhundreds, htens, hones, ?unit, ?dp,
    exec_convert_of_valid hp hs (validCount_eq_true.2 ⟨hmin, hmax⟩)⟩
  case unit =>
    rw [readingBuffer_unit]
    cases s.range <;> rfl
  case dp =>
    rw [readingBuffer_dp]
    cases s.range <;> rfl

/-- Settles O25: unit and index of a reading are those of the range's row. -/
theorem readingHasUnitAndPointOfRange : Obligations.ReadingHasUnitAndPointOfRange := by
  intro s t v h hv
  obtain ⟨c, -, -, -, hbuf⟩ := exec_convert_scaled h hv
  rw [hbuf, readingBuffer_unit, readingBuffer_dp]
  refine ⟨?_, ?_, ?_, ?_, ?_⟩ <;> intro hr <;> rw [hr] <;> exact ⟨rfl, rfl⟩

/-- Settles O26: hundreds, tens and ones of the value, each a remainder by ten. -/
theorem readingShowsValueModulo1000 : Obligations.ReadingShowsValueModulo1000 := by
  intro s t v h hv
  obtain ⟨c, -, -, rfl, hbuf⟩ := exec_convert_scaled h hv
  obtain ⟨hhundreds, htens, hones⟩ := readingBuffer_digits s.range c
  rw [hbuf, hhundreds, htens, hones]
  omega

end Sys2Proof.Machine
end

section
/-! RERANGE (spec/42_measurement.md R85, R86), and what every operation leaves of the sequencer's elements: who writes the
range and who writes the sample (R78). -/

namespace Sys2Proof.Machine

/-! ### The range that RERANGE chooses -/

/-- After a scaled value the thresholds decide (R85). -/
theorem rangeCode_nextRange_scaled (p : Params) (v : Nat) (r : RangeSetting) :
    rangeCode (nextRange p (.scaled v) r) =
      if v < p.threshLow then max 1 (rangeCode r - 1)
      else if p.threshHigh < v then min 5 (rangeCode r + 1)
      else rangeCode r := by
  simp only [nextRange, apply_ite rangeCode, rangeCode_down, rangeCode_up]

theorem nextRange_rejected (p : Params) (rest : BitVec 20) (r : RangeSetting) :
    nextRange p (.rejected rest) r = r := rfl

theorem nextRange_noSample_hold {p : Params} (hp : p.noSamplePolicy = .hold) (rest : BitVec 20) (r : RangeSetting) :
    nextRange p (.noSample rest) r = r := by
  simp only [nextRange, hp]

theorem nextRange_noSample_stepUp {p : Params} (hp : p.noSamplePolicy = .stepUp) (rest : BitVec 20) (r : RangeSetting) :
    nextRange p (.noSample rest) r = rangeUp r := by
  simp only [nextRange, hp]

/-- RERANGE moves the range by at most one after every outcome of CONVERT (R86). -/
theorem rangeNear_nextRange (p : Params) (c : Conv) (r : RangeSetting) : RangeNear r (nextRange p c r) := by
  cases c with
  | scaled v => exact rangeNear_nextRange_scaled p v r
  | rejected rest => exact rangeNear_self r
  | noSample rest =>
    cases hp : p.noSamplePolicy with
    | hold =>
      rw [nextRange_noSample_hold hp]
      exact rangeNear_self r
    | stepUp =>
      rw [nextRange_noSample_stepUp hp]
      exact rangeNear_up r

/-- Settles O28: one clause for each outcome of CONVERT. -/
theorem rerangeStepsByThresholds : Obligations.RerangeStepsByThresholds := by
  intro s hp
  refine ⟨nextRange Config.params s.conv s.range, exec_rerange_eq_next.2 ⟨hp, rfl⟩, ?_⟩
  cases s.conv with
  | scaled v => exact rangeCode_nextRange_scaled Config.params v s.range
  | rejected rest => rfl
  | noSample rest => exact rangeCode_nextRange_noSample Config.params rest s.range

/-! ### The frame of the operations outside the sequencer -/

/-- The elements of the measurement, `RANGE` to `CHG`, are the same in both states (R23 to R28). -/
structure MeasurementKept (s t : State) : Prop where
  range : t.range = s.range
  ph : t.ph = s.ph
  armed : t.armed = s.armed
  sample : t.sample = s.sample
  conv : t.conv = s.conv
  chg : t.chg = s.chg

/-- An operation that is none of the sequencer's, no CAPTURE and no RESET leaves the measurement (R67, R68, R60). -/
theorem exec_keeps_measurement {i : Instr} {s t : State} (h : exec i s = .next t)
    (hseq : isSequencerOp i = false) (hcapture : ∀ c, i ≠ .capture c) (hreset : i ≠ .reset) : MeasurementKept s t := by
  cases i with
  | discharge | charge | disarm | convert | rerange => cases hseq
  | capture c => exact absurd rfl (hcapture c)
  | reset => exact absurd rfl hreset
  | reserved9 | reservedAB | reservedCD | reservedE => cases h
  | _ =>
    cases h
    exact ⟨rfl, rfl, rfl, rfl, rfl, rfl⟩

/-- R86: no operation but RERANGE and RESET writes the range. -/
theorem exec_keeps_range {i : Instr} {s t : State} (hrerange : i ≠ .rerange) (hreset : i ≠ .reset)
    (h : exec i s = .next t) : t.range = s.range := by
  cases i with
  | rerange => exact absurd rfl hrerange
  | reset => exact absurd rfl hreset
  | discharge => obtain ⟨-, rfl⟩ := exec_discharge_eq_next.1 h; rfl
  | charge => obtain ⟨-, rfl⟩ := exec_charge_eq_next.1 h; rfl
  | disarm => obtain ⟨-, rfl⟩ := exec_disarm_eq_next.1 h; rfl
  | convert =>
    obtain ⟨-, rfl⟩ := exec_convert_eq_next.1 h
    rw [convertSample_frame]
    rfl
  | capture c =>
    rw [exec_capture_eq_next.1 h]
    split <;> rfl
  | _ => exact (exec_keeps_measurement h rfl (fun _ => nofun) nofun).range

/-- Settles O34: RERANGE is the one operation left that writes the range, and it moves it by at most one. -/
theorem rangeMovesByAtMostOneInRerange : Obligations.RangeMovesByAtMostOneInRerange := by
  intro i s t h hreset
  refine ⟨fun hi => exec_keeps_range hi hreset h, (?near : RangeNear s.range t.range)⟩
  case near =>
    by_cases hi : i = .rerange
    · subst hi
      obtain ⟨-, rfl⟩ := exec_rerange_eq_next.1 h
      exact rangeNear_nextRange Config.params s.conv s.range
    · exact exec_keeps_range hi hreset h ▸ rangeNear_self s.range

/-- R78: a sample that is held stays under every operation but CHARGE, CONVERT and RESET, a further trip among them. -/
theorem exec_keeps_held_sample {i : Instr} {s t : State} {c : Count} (hcharge : i ≠ .charge) (hconvert : i ≠ .convert)
    (hreset : i ≠ .reset) (h : exec i s = .next t) (hs : s.sample = some c) : t.sample = some c := by
  cases i with
  | charge => exact absurd rfl hcharge
  | convert => exact absurd rfl hconvert
  | reset => exact absurd rfl hreset
  | discharge => obtain ⟨-, rfl⟩ := exec_discharge_eq_next.1 h; exact hs
  | disarm => obtain ⟨-, rfl⟩ := exec_disarm_eq_next.1 h; exact hs
  | rerange => obtain ⟨-, rfl⟩ := exec_rerange_eq_next.1 h; exact hs
  | capture d =>
    have hheld : ¬ s.acceptsTrip = true := fun haccepts => by
      obtain ⟨-, hnone⟩ := acceptsTrip_eq_true.1 haccepts
      simp [hs] at hnone
    cases (exec_capture_of_not_accepts hheld d).symm.trans h
    exact hs
  | _ => exact (exec_keeps_measurement h rfl (fun _ => nofun) nofun).sample.trans hs

/-- Settles O43: each operation of the run keeps the held sample. -/
theorem firstSampleOfWindowIsKept : Obligations.FirstSampleOfWindowIsKept := by
  intro l s t c hs hcharge hconvert hreset h
  refine runInstrs_keeps (P := fun u => u.sample = some c) (fun i hi u v hstep hu => ?_) h hs
  exact exec_keeps_held_sample (ne_of_mem_of_not_mem hi hcharge) (ne_of_mem_of_not_mem hi hconvert)
    (ne_of_mem_of_not_mem hi hreset) hstep hu

end Sys2Proof.Machine
end

section
/-! While no reading is due, a step puts none up (spec/70_reset_and_hazards.md R114): the state stays one without a reading
due, the buffer stays, and the range moves by the policy only. -/

namespace Sys2Proof.Machine

variable {s t : State} {i : Instr}

/-! ### No reading becomes due -/

theorem NoReadingDue.sample_invalid {c : Count} (hs : NoReadingDue s) (hc : s.sample = some c) :
    validCount Config.params c = false :=
  validCount_eq_false.2 (hs.sample c hc)

/-- A CONVERT of a state without a valid sample leaves no scaled value (R84). -/
theorem NoReadingDue.exec_convert_conv (hs : NoReadingDue s) (h : exec .convert s = .next t) (v : Nat) :
    t.conv ≠ .scaled v := by
  intro hv
  obtain ⟨c, hc, hvalid, -, -⟩ := exec_convert_scaled h hv
  simp [hs.sample_invalid hc] at hvalid

/-- An accepted trip is the one way a valid sample comes to be held, and CONVERT the one way to `P_RNG`. -/
theorem exec_keeps_noReadingDue (hs : NoReadingDue s) (hreset : i ≠ .reset)
    (hcapture : ∀ c, i = .capture c → c.toNat < Config.params.sampleMin ∨ Config.params.sampleMax < c.toNat)
    (h : exec i s = .next t) : NoReadingDue t := by
  cases i with
  | reset => exact absurd rfl hreset
  | discharge => obtain ⟨-, rfl⟩ := exec_discharge_eq_next.1 h; exact ⟨hs.sample, nofun⟩
  | charge => obtain ⟨-, rfl⟩ := exec_charge_eq_next.1 h; exact ⟨nofun, nofun⟩
  | disarm => obtain ⟨-, rfl⟩ := exec_disarm_eq_next.1 h; exact ⟨hs.sample, nofun⟩
  | rerange => obtain ⟨-, rfl⟩ := exec_rerange_eq_next.1 h; exact ⟨hs.sample, nofun⟩
  | convert =>
    have hconv := hs.exec_convert_conv h
    obtain ⟨-, rfl⟩ := exec_convert_eq_next.1 h
    exact ⟨nofun, fun _ => hconv⟩
  | capture c =>
    rw [exec_capture_eq_next.1 h]
    split
    · refine ⟨?_, hs.conv⟩
      rintro d ⟨⟩
      exact hcapture c rfl
    · exact hs
  | _ =>
    have hkept := exec_keeps_measurement h rfl (fun _ => nofun) nofun
    exact ⟨hkept.sample ▸ hs.sample, fun hp => hkept.conv ▸ hs.conv (hkept.ph ▸ hp)⟩

/-! ### The buffer and the range stay -/

/-- Where no reading is due, only WRBUF and RESET write the buffer (R84). -/
theorem NoReadingDue.not_bufWrite {f : Buffer} (hs : NoReadingDue s) (hreset : i ≠ .reset)
    (hwrbuf : ∀ b, i ≠ .wrbuf b) : ¬ BufWrite i s f := by
  intro hwrite
  cases hwrite with
  | wrbuf w => exact hwrbuf w rfl
  | reset => exact hreset rfl
  | reading hsample hvalid => simp [hs.sample_invalid hsample] at hvalid

theorem NoReadingDue.exec_buf (hs : NoReadingDue s) (hreset : i ≠ .reset) (hwrbuf : ∀ b, i ≠ .wrbuf b)
    (h : exec i s = .next t) : t.buf = s.buf := by
  rcases exec_buf_cases h with hwrite | ⟨hbuf, -⟩
  · exact absurd hwrite (hs.not_bufWrite hreset hwrbuf)
  · exact hbuf

/-- Without a scaled value RERANGE keeps the range, unless no sample arrived and the policy is StepUp (R85). -/
theorem nextRange_of_not_scaled {p : Params} {c : Conv} (r : RangeSetting) (hscaled : ∀ v, c ≠ .scaled v)
    (hpolicy : p.noSamplePolicy = .hold ∨ ∀ rest, c ≠ .noSample rest) : nextRange p c r = r := by
  cases c with
  | scaled v => exact absurd rfl (hscaled v)
  | rejected rest => exact nextRange_rejected p rest r
  | noSample rest =>
    rcases hpolicy with hhold | hsome
    · exact nextRange_noSample_hold hhold rest r
    · exact absurd rfl (hsome rest)

theorem NoReadingDue.exec_range (hs : NoReadingDue s) (hreset : i ≠ .reset)
    (hpolicy : Config.params.noSamplePolicy = .hold ∨ (i = .rerange → ∀ rest, s.conv ≠ .noSample rest))
    (h : exec i s = .next t) : t.range = s.range := by
  by_cases hi : i = .rerange
  · subst hi
    obtain ⟨hp, rfl⟩ := exec_rerange_eq_next.1 h
    exact nextRange_of_not_scaled s.range (hs.conv hp) (hpolicy.imp_right fun hsome => hsome rfl)
  · exact exec_keeps_range hi hreset h

/-! ### One step -/

/-- Taking a word or a turn makes no reading due. -/
theorem NoReadingDue.setInputs_setTurns (hs : NoReadingDue s) (ws : List FormatWord) (n : Nat) :
    NoReadingDue ((s.setInputs ws).setTurns n) := ⟨hs.sample, hs.conv⟩

/-- Settles O54: a step performs its instruction in the state with the word or the turn taken, and the instruction keeps
each of the three. -/
theorem eachStepKeepsTheFreeze : Obligations.EachStepKeepsTheFreeze := by
  intro s t i hs hi h hreset hwrbuf hcapture
  obtain ⟨ws, n, he⟩ := step_eq_next_of_performs hi h
  have hu := hs.setInputs_setTurns ws n
  exact ⟨exec_keeps_noReadingDue hu hreset hcapture he, hu.exec_buf hreset hwrbuf he,
    fun hpolicy => hu.exec_range hreset hpolicy he⟩

end Sys2Proof.Machine
end

section
/-! The dashes until the first reading (spec/70_reset_and_hazards.md R108) and the freeze while no count is valid
(R114), each along a whole run. -/

namespace Sys2Proof.Machine

/-! ### The dashes -/

/-- R108: after a run from RESET without a WRBUF and without a reading the buffer holds RESET's dashes. The RESET at its
head is a write, so the buffer is that of the last write, and a write that is neither of the two is RESET's. -/
theorem runInstrs_reset_buf {l : List Instr} {s t : State} (hwrbuf : ∀ b, Instr.wrbuf b ∉ l)
    (hreading : NoReading (.reset :: l) s) (h : runInstrs (.reset :: l) s = .next t) : t.buf = dashes := by
  rcases runInstrs_buf_cases h with ⟨-, hreset, -, -⟩ | ⟨l₁, l₂, i, u, v, hl, hu, -, -, -, hwrite⟩
  · exact absurd List.mem_cons_self hreset
  · refine hwrite.eq_dashes (fun b hi => ?nowrbuf) (fun hi c hc => ?noreading)
    case nowrbuf =>
      have hmem : Instr.wrbuf b ∈ Instr.reset :: l := by simp [hl, hi]
      rcases List.mem_cons.1 hmem with hb | hb
      · cases hb
      · exact hwrbuf b hb
    case noreading => exact hreading l₁ l₂ u c (hi ▸ hl) hu hc

/-- Settles O47: the TICK at the end shows the buffer of the run before it. -/
theorem dashesUntilFirstReading : Obligations.DashesUntilFirstReading := by
  intro l s t hwrbuf hreading h
  obtain ⟨u, hu, ht⟩ := runInstrs_append.1 h
  obtain ⟨_, htick, ⟨⟩⟩ := runInstrs_cons.1 ht
  cases htick
  exact afterTick_of_dashes (runInstrs_reset_buf hwrbuf hreading hu)

/-! ### No missing sample due to RERANGE -/

/-- CONVERT is the one way to `P_RNG`: any other operation that ends there began there and left `CONV` (R75, R84). -/
theorem exec_ph_rng_cases {i : Instr} {s t : State} (h : exec i s = .next t) (hph : t.ph = .rng) :
    i = .convert ∨ (s.ph = .rng ∧ t.conv = s.conv) := by
  cases i with
  | convert => exact .inl rfl
  | discharge => obtain ⟨-, rfl⟩ := exec_discharge_eq_next.1 h; cases hph
  | charge => obtain ⟨-, rfl⟩ := exec_charge_eq_next.1 h; cases hph
  | disarm => obtain ⟨-, rfl⟩ := exec_disarm_eq_next.1 h; cases hph
  | rerange => obtain ⟨-, rfl⟩ := exec_rerange_eq_next.1 h; cases hph
  | reset => cases h; cases hph
  | capture c =>
    obtain rfl := exec_capture_eq_next.1 h
    revert hph
    split <;> exact fun hph => .inr ⟨hph, rfl⟩
  | _ =>
    have hkept := exec_keeps_measurement h rfl (fun _ => nofun) nofun
    exact .inr ⟨hkept.ph ▸ hph, hkept.conv⟩

/-- A CONVERT that finds a sample does not leave `NoSample` (R84). -/
theorem exec_convert_conv_ne_noSample {s t : State} (hs : s.sample ≠ none) (h : exec .convert s = .next t)
    (rest : BitVec 20) : t.conv ≠ .noSample rest := by
  obtain ⟨-, rfl⟩ := exec_convert_eq_next.1 h
  rcases convertSample_cases Config.params s with ⟨hnone, -⟩ | ⟨c, -, -, he⟩ | ⟨c, -, -, he⟩
  · exact absurd hnone hs
  · rw [he]; nofun
  · rw [he]; nofun

/-- No missing sample makes RERANGE step along the list: the policy is Hold, or every CONVERT of the list finds a sample
and no `NoSample` is due at its start (R85). -/
def NoStepForMissingSample (l : List Instr) (s : State) : Prop :=
  Config.params.noSamplePolicy = .hold ∨
    ((s.ph = .rng → ∀ rest, s.conv ≠ .noSample rest) ∧ EverySampleArrives l s)

/-- What `EverySampleArrives` says of the first operation of a list, and of the others from the state it leaves. -/
theorem EverySampleArrives.of_cons {i : Instr} {l : List Instr} {s u : State} (h : EverySampleArrives (i :: l) s)
    (hu : exec i s = .next u) : (i = .convert → s.sample ≠ none) ∧ EverySampleArrives l u := by
  refine ⟨?first, fun l₁ l₂ v hl hv => ?rest⟩
  case first =>
    rintro rfl
    exact h [] l s rfl rfl
  case rest => exact h (i :: l₁) l₂ v (congrArg (i :: ·) hl) (runInstrs_cons.2 ⟨u, hu, hv⟩)

theorem NoStepForMissingSample.tail {i : Instr} {l : List Instr} {s u : State}
    (h : NoStepForMissingSample (i :: l) s) (hu : exec i s = .next u) : NoStepForMissingSample l u := by
  refine h.imp_right fun ⟨hdue, harrives⟩ => ?_
  obtain ⟨hfirst, hrest⟩ := harrives.of_cons hu
  refine ⟨fun hph => ?_, hrest⟩
  rcases exec_ph_rng_cases hu hph with rfl | ⟨hrng, hconv⟩
  · exact exec_convert_conv_ne_noSample (hfirst rfl) hu
  · exact hconv ▸ hdue hrng

/-- What the first operation's range step asks for: a RERANGE that completes is in `P_RNG`. -/
theorem NoStepForMissingSample.head {i : Instr} {l : List Instr} {s u : State}
    (h : NoStepForMissingSample (i :: l) s) (hu : exec i s = .next u) :
    Config.params.noSamplePolicy = .hold ∨ (i = .rerange → ∀ rest, s.conv ≠ .noSample rest) := by
  refine h.imp_right fun ⟨hdue, _⟩ => ?_
  rintro rfl
  obtain ⟨hph, -⟩ := exec_rerange_eq_next.1 hu
  exact hdue hph

/-! ### The freeze -/

/-- The operation brings no reading from outside: it is no RESET, no WRBUF and no trip with a valid count (R114). -/
structure BringsNoReading (i : Instr) : Prop where
  reset : i ≠ .reset
  wrbuf : ∀ b, i ≠ .wrbuf b
  capture : ∀ c, i = .capture c → c.toNat < Config.params.sampleMin ∨ Config.params.sampleMax < c.toNat

/-- R114 along a run, by induction on its operations: each keeps the buffer, and the range too if no missing sample
makes RERANGE step, and none makes a reading due. -/
theorem NoReadingDue.runInstrs_frozen {l : List Instr} {s t : State} (hs : NoReadingDue s)
    (hl : ∀ i ∈ l, BringsNoReading i) (h : runInstrs l s = .next t) :
    t.buf = s.buf ∧ (NoStepForMissingSample l s → t.range = s.range) := by
  induction l generalizing s with
  | nil =>
    cases h
    exact ⟨rfl, fun _ => rfl⟩
  | cons i l ih =>
    obtain ⟨u, hu, ht⟩ := runInstrs_cons.1 h
    obtain ⟨hi, hl⟩ := List.forall_mem_cons.1 hl
    obtain ⟨hbuf, hrange⟩ := ih (exec_keeps_noReadingDue hs hi.reset hi.capture hu) hl ht
    exact ⟨hbuf.trans (hs.exec_buf hi.reset hi.wrbuf hu), fun hstep =>
      (hrange (hstep.tail hu)).trans (hs.exec_range hi.reset (hstep.head hu) hu)⟩

/-- Settles O46: the run brings no reading, and each of the two premises on the policy keeps RERANGE from stepping. -/
theorem rejectedCountsFreezeDisplayAndRange : Obligations.RejectedCountsFreezeDisplayAndRange := by
  intro l s t h hsample hconv hreset hwrbuf hcapture
  have hl : ∀ i ∈ l, BringsNoReading i := fun i hi =>
    { reset := ne_of_mem_of_not_mem hi hreset
      wrbuf := fun b => ne_of_mem_of_not_mem hi (hwrbuf b)
      capture := fun c hc => hcapture c (hc ▸ hi) }
  obtain ⟨hbuf, hrange⟩ := NoReadingDue.runInstrs_frozen ⟨hsample, hconv⟩ hl h
  exact ⟨hbuf, fun hhold => hrange (.inl hhold), fun hdue harrives => hrange (.inr ⟨hdue, harrives⟩)⟩

end Sys2Proof.Machine
end

section
/-! The agents' turns never stop (spec/70_reset_and_hazards.md R110, spec/20_memory.md R40): each one completes, and the
machine with no word waiting takes those of its open schedule (log entry 4). -/

namespace Sys2Proof.Machine

/-! ### Every turn completes -/

/-- Settles O30: the operation of the phase is the one that completes. -/
theorem exactlyOneSequencerOperationIsEnabled : Obligations.ExactlyOneSequencerOperationIsEnabled := by
  intro s
  refine ⟨⟨afterTick s, exec_tick s⟩, sequencerInstr s.ph,
    ⟨isSequencerOp_sequencerInstr s.ph, exec_sequencerInstr_completes_iff.2 rfl⟩, ?_⟩
  rintro i ⟨hseq, hcompletes⟩
  obtain ⟨p, rfl⟩ := exists_phase_of_isSequencerOp hseq
  rw [exec_sequencerInstr_completes_iff.1 hcompletes]

theorem exec_turnInstr_completes (turn : Turn) (s : State) : ∃ t, exec (turnInstr turn s.ph) s = .next t := by
  cases turn with
  | sequencer => exact exec_sequencerInstr_completes_iff.2 rfl
  | tick | trip | reset => exact ⟨_, rfl⟩

theorem runTurns_cons {turn : Turn} {l : List Turn} {s t : State} :
    runTurns (turn :: l) s = .next t ↔ ∃ u, exec (turnInstr turn s.ph) s = .next u ∧ runTurns l u = .next t := by
  simp only [runTurns]
  cases exec (turnInstr turn s.ph) s <;> simp

theorem runTurns_completes (l : List Turn) (s : State) : ∃ t, runTurns l s = .next t := by
  induction l generalizing s with
  | nil => exact ⟨s, rfl⟩
  | cons turn l ih =>
    obtain ⟨u, hu⟩ := exec_turnInstr_completes turn s
    obtain ⟨t, ht⟩ := ih u
    exact ⟨t, runTurns_cons.2 ⟨u, hu, ht⟩⟩

theorem runTurns_keeps_inputs {l : List Turn} {s t : State} (h : runTurns l s = .next t) : t.inputs = s.inputs := by
  induction l generalizing s with
  | nil =>
    cases h
    rfl
  | cons turn l ih =>
    obtain ⟨u, hu, ht⟩ := runTurns_cons.1 h
    exact (ih ht).trans (exec_keeps_inputs hu).1

/-! ### No operation reads the count of turns -/

theorem State.setTurns_setTurns (s : State) (m n : Nat) : (s.setTurns m).setTurns n = s.setTurns n := rfl

theorem sequencerStep_setTurns {p : Phase} {f : State → State} {s : State} {n : Nat}
    (h : f (s.setTurns n) = (f s).setTurns n) :
    sequencerStep p f (s.setTurns n) = mapNext (·.setTurns n) (sequencerStep p f s) := by
  by_cases hp : s.ph = p
  · rw [sequencerStep_of_ph hp, sequencerStep_of_ph (s := s.setTurns n) hp, h]
    rfl
  · rw [sequencerStep_of_ne hp, sequencerStep_of_ne (s := s.setTurns n) hp]
    rfl

theorem convertSample_setTurns (p : Params) (s : State) (n : Nat) :
    convertSample p (s.setTurns n) = (convertSample p s).setTurns n := by
  rcases convertSample_cases p s with ⟨hs, he⟩ | ⟨c, hs, hc, he⟩ | ⟨c, hs, hc, he⟩
  · rw [he, convertSample_of_none (s := s.setTurns n) hs]
    rfl
  · rw [he, convertSample_of_invalid (s := s.setTurns n) hs hc]
    rfl
  · rw [he, convertSample_of_valid (s := s.setTurns n) hs hc]
    rfl

/-- With another count of turns an operation answers what it answers, with that count (log entry 4). -/
theorem exec_setTurns (i : Instr) (s : State) (n : Nat) :
    exec i (s.setTurns n) = mapNext (·.setTurns n) (exec i s) := by
  cases i with
  | discharge =>
    simp only [exec, execDischarge, discharge]
    exact sequencerStep_setTurns rfl
  | charge =>
    simp only [exec, execCharge, charge]
    exact sequencerStep_setTurns rfl
  | disarm =>
    simp only [exec, execDisarm]
    exact sequencerStep_setTurns rfl
  | convert =>
    simp only [exec, execConvert, convert]
    exact sequencerStep_setTurns (congrArg (·.setSample none) (convertSample_setTurns _ s n))
  | rerange =>
    simp only [exec, execRerange, rerange]
    exact sequencerStep_setTurns rfl
  | capture c =>
    have haccepts : (s.setTurns n).acceptsTrip = s.acceptsTrip := rfl
    simp only [exec, execCapture, haccepts, mapNext]
    cases s.acceptsTrip <;> rfl
  | _ => rfl

theorem runTurns_setTurns {l : List Turn} {s t : State} (h : runTurns l s = .next t) (n : Nat) :
    runTurns l (s.setTurns n) = .next (t.setTurns n) := by
  induction l generalizing s with
  | nil =>
    cases h
    rfl
  | cons turn l ih =>
    obtain ⟨u, hu, ht⟩ := runTurns_cons.1 h
    have hstep : exec (turnInstr turn s.ph) (s.setTurns n) = .next (u.setTurns n) := by
      rw [exec_setTurns, hu, mapNext]
    exact runTurns_cons.2 ⟨u.setTurns n, hstep, ih ht⟩

/-! ### The machine's own run -/

/-- The n turns of the open schedule from turn k on. -/
def scheduledTurns (k n : Nat) : List Turn := (List.range n).map fun j => Config.schedule (k + j)

theorem scheduledTurns_succ (k n : Nat) :
    scheduledTurns k (n + 1) = Config.schedule k :: scheduledTurns (k + 1) n := by
  simp [scheduledTurns, List.range_succ_eq_map, Function.comp_def, Nat.add_assoc, Nat.add_comm 1]

theorem coreRun_succ {s v : State} (h : step s = .next v) (n : Nat) :
    Host.Core.run core (n + 1) s = Host.Core.run core n v := by
  have hcore : core.step s = .next v := h
  simp only [Host.Core.run, hcore]

/-- Where no word waits, n steps of the machine are n turns of its schedule, counted (R40, log entry 4). -/
theorem coreRun_of_runTurns {n : Nat} {s u : State} (hnone : s.inputs = [])
    (h : runTurns (scheduledTurns s.turns n) s = .next u) :
    Host.Core.run core n s = .next (u.setTurns (s.turns + n)) := by
  induction n generalizing s u with
  | zero =>
    cases h
    rfl
  | succ n ih =>
    rw [scheduledTurns_succ] at h
    obtain ⟨v, hv, hu⟩ := runTurns_cons.1 h
    have hstep : step s = .next (v.setTurns (s.turns + 1)) := by
      rw [step_of_inputs_nil hnone, exec_setTurns, hv, mapNext]
    have hinputs : (v.setTurns (s.turns + 1)).inputs = [] := (exec_keeps_inputs hv).1.trans hnone
    calc Host.Core.run core (n + 1) s
        = Host.Core.run core n (v.setTurns (s.turns + 1)) := coreRun_succ hstep n
      _ = .next ((u.setTurns (s.turns + 1)).setTurns (s.turns + 1 + n)) :=
        ih hinputs (runTurns_setTurns hu (s.turns + 1))
      _ = .next (u.setTurns (s.turns + (n + 1))) := by
        rw [State.setTurns_setTurns, Nat.add_assoc, Nat.add_comm 1]

/-- Settles O48: the turns of the schedule complete as any others do, and the machine's run is theirs. -/
theorem freeRunNeverEnds : Obligations.FreeRunNeverEnds := by
  refine ⟨runTurns_completes, fun n s hnone => ?_⟩
  obtain ⟨u, hu⟩ := runTurns_completes (scheduledTurns s.turns n) s
  have hinputs : u.inputs = [] := (runTurns_keeps_inputs hu).trans hnone
  exact ⟨u.setTurns (s.turns + n), coreRun_of_runTurns hnone hu, hinputs, rfl, u, hu, rfl⟩

end Sys2Proof.Machine
end

section
/-! The phases under a weakly fair schedule without RESET (spec/70_reset_and_hazards.md R110, R115): the sequencer's
turn moves the phase on, the other turns leave it, and the sequencer's turn always comes again. -/

namespace Sys2Proof.Machine

/-! ### One turn -/

/-- R75, R78: the sequencer's turn sets the next phase, and a tick or a trip leaves the phase. -/
theorem exec_turnInstr_ph {turn : Turn} {s t : State} (hreset : turn ≠ .reset)
    (h : exec (turnInstr turn s.ph) s = .next t) : t.ph = if turn = .sequencer then s.ph.succ else s.ph := by
  cases turn with
  | reset => exact absurd rfl hreset
  | sequencer => exact (exec_sequencerInstr_ph h).2
  | tick => cases h; rfl
  | trip c =>
    rw [exec_capture_eq_next.1 h]
    split <;> rfl

/-! ### The phase after the turns of a schedule -/

/-- The phase that the first m turns of the schedule reach from s. -/
def PhaseAfter (schedule : Nat → Turn) (s : State) (m : Nat) (p : Phase) : Prop :=
  ∃ t, runTurns (turnsUpTo schedule m) s = .next t ∧ t.ph = p

theorem turnsUpTo_succ (schedule : Nat → Turn) (m : Nat) :
    turnsUpTo schedule (m + 1) = turnsUpTo schedule m ++ [schedule m] := by
  simp [turnsUpTo, List.range_succ]

theorem exists_phaseAfter (schedule : Nat → Turn) (s : State) (m : Nat) : ∃ p, PhaseAfter schedule s m p := by
  obtain ⟨t, ht⟩ := runTurns_completes (turnsUpTo schedule m) s
  exact ⟨t.ph, t, ht, rfl⟩

section Fair

variable {schedule : Nat → Turn} {s : State} {m : Nat} {p : Phase}

theorem PhaseAfter.next (hp : PhaseAfter schedule s m p) (hreset : schedule m ≠ .reset) :
    PhaseAfter schedule s (m + 1) (if schedule m = .sequencer then p.succ else p) := by
  obtain ⟨t, ht, rfl⟩ := hp
  obtain ⟨u, hu⟩ := exec_turnInstr_completes (schedule m) t
  have hrun : runTurns (turnsUpTo schedule (m + 1)) s = .next u := by
    rw [turnsUpTo_succ]
    exact runTurns_append.2 ⟨t, ht, runTurns_cons.2 ⟨u, hu, rfl⟩⟩
  exact ⟨u, hrun, exec_turnInstr_ph hreset hu⟩

/-- If the sequencer's turn is d turns ahead, the next phase is reached. By induction on d: a turn of the sequencer
reaches it, and any other turn leaves the phase and the sequencer's turn one nearer. -/
theorem PhaseAfter.reaches_succ_of_sequencer_ahead (hreset : ∀ n, schedule n ≠ .reset) {d : Nat}
    (hp : PhaseAfter schedule s m p) (hd : schedule (m + d) = .sequencer) :
    ∃ k, m ≤ k ∧ PhaseAfter schedule s k p.succ := by
  induction d generalizing m with
  | zero =>
    have hnext := hp.next (hreset m)
    rw [if_pos (show schedule m = .sequencer from hd)] at hnext
    exact ⟨m + 1, m.le_succ, hnext⟩
  | succ d ih =>
    have hnext := hp.next (hreset m)
    by_cases hseq : schedule m = .sequencer
    · rw [if_pos hseq] at hnext
      exact ⟨m + 1, m.le_succ, hnext⟩
    · rw [if_neg hseq] at hnext
      have hahead : schedule (m + 1 + d) = .sequencer := by rw [Nat.add_right_comm]; exact hd
      obtain ⟨k, hk, hsucc⟩ := ih hnext hahead
      exact ⟨k, m.le_succ.trans hk, hsucc⟩

/-- R115: from every phase a fair schedule reaches the next one. -/
theorem PhaseAfter.reaches_succ (hfair : WeaklyFair schedule) (hreset : ∀ n, schedule n ≠ .reset)
    (hp : PhaseAfter schedule s m p) : ∃ k, m ≤ k ∧ PhaseAfter schedule s k p.succ := by
  obtain ⟨⟨k, hk, hseq⟩, -⟩ := hfair m
  obtain ⟨d, rfl⟩ := Nat.exists_eq_add_of_le hk
  exact hp.reaches_succ_of_sequencer_ahead hreset hseq

theorem PhaseAfter.reaches_iterate_succ (hfair : WeaklyFair schedule) (hreset : ∀ n, schedule n ≠ .reset)
    (hp : PhaseAfter schedule s m p) (j : Nat) : ∃ k, m ≤ k ∧ PhaseAfter schedule s k (Phase.succ^[j] p) := by
  induction j with
  | zero => exact ⟨m, le_rfl, hp⟩
  | succ j ih =>
    obtain ⟨k, hk, hj⟩ := ih
    obtain ⟨k', hk', hsucc⟩ := hj.reaches_succ hfair hreset
    exact ⟨k', hk.trans hk', (Function.iterate_succ_apply' Phase.succ j p).symm ▸ hsucc⟩

end Fair

/-! ### The cycle -/

/-- The phases form one cycle of five (R75): `P_DIS` is some phases ahead of every phase, and every phase some ahead of
`P_DIS`. -/
theorem exists_iterate_succ_eq (p q : Phase) : ∃ j, Phase.succ^[j] p = q := by
  have hdis : ∃ j, Phase.succ^[j] p = .dis := by
    cases p with
    | dis => exact ⟨0, rfl⟩
    | chg => exact ⟨4, rfl⟩
    | wait => exact ⟨3, rfl⟩
    | cnv => exact ⟨2, rfl⟩
    | rng => exact ⟨1, rfl⟩
  have hq : ∃ j, Phase.succ^[j] .dis = q := by
    cases q with
    | dis => exact ⟨0, rfl⟩
    | chg => exact ⟨1, rfl⟩
    | wait => exact ⟨2, rfl⟩
    | cnv => exact ⟨3, rfl⟩
    | rng => exact ⟨4, rfl⟩
  obtain ⟨a, ha⟩ := hdis
  obtain ⟨b, hb⟩ := hq
  exact ⟨b + a, by rw [Function.iterate_add_apply, ha, hb]⟩

/-- Settles O49: n turns reach some phase, and from there the phase asked for is some sequencer turns ahead. -/
theorem fairRunsVisitEveryPhaseForever : Obligations.FairRunsVisitEveryPhaseForever := by
  intro schedule hfair hreset s ph n
  obtain ⟨p, hp⟩ := exists_phaseAfter schedule s n
  obtain ⟨j, rfl⟩ := exists_iterate_succ_eq p ph
  exact hp.reaches_iterate_succ hfair hreset j

end Sys2Proof.Machine
end
